-- ==== Sys2Proof/Word.lean ====
section
/-! DEFINITION. The word types of the GX-0816: bytes, halves, array words and the small indices that the
manual treats as bit fields. -/

namespace Sys2Proof

/-- One byte of the Host Port or of the Tally Lane (R1). -/
abbrev Byte := BitVec 8

/-- A 16-bit field: a bin index, a marker value, an event DETAIL. -/
abbrev Half := BitVec 16

/-- A 32-bit register value or array word (R142). -/
abbrev Word := BitVec 32

/-- A region index, 0 to 15 (R76). -/
abbrev RegionIx := BitVec 4

/-- A bin index inside a region, 0 to 65,535 (R56). -/
abbrev BinIx := BitVec 16

/-- A ticket, 0 to 15 (R32). -/
abbrev Ticket := BitVec 4

/-- A sweep TAG, 0 to 15 (R127). -/
abbrev Tag := BitVec 4

/-- A sampling trim of the lane receiver, 0 to 15 (R51). -/
abbrev Trim := BitVec 4

end Sys2Proof
end

