-- ==== Sys2Proof/Syntax.lean ====
section
/-! DEFINITION. The commands of the part: one constructor of `Instr` per row of spec/opcode_table.json, with
the operands that come from outside the part (bytes on the Host Port, samples on the Tally Lane). A step that
the part takes from its own queues carries no operand: what it acts on is in the state. -/

namespace Sys2Proof

/-- The ten assigned opcodes of the Host Port (R10). -/
inductive Opcode where
  | status | regRead | regWrite | postUpdates | submit
  | takeCompletion | takeReadout | takeEvent | wake | softReset
deriving DecidableEq, Repr

/-- The TYPE of an update record (R56). -/
inductive RecordType where
  | pad | update | mark | reserved
deriving DecidableEq, Repr

/-- The 7-byte update record of the Tally Lane and of POST_UPDATES, field by field (R56). `ignored` holds
bits 5 to 4 of its first byte. -/
structure UpdateRecord where
  type : RecordType
  ignored : BitVec 2
  region : RegionIx
  bin : BinIx
  value : Word
deriving DecidableEq, Repr

/-- What one rising edge of LCLK samples: LFRM, and the nibble on LD3 to LD0 with LD3 as its most significant
bit (R1, R51). -/
structure LaneSample where
  lfrm : Bool
  ld : BitVec 4
deriving DecidableEq, Repr

/-- The statistics counters of R3, those that a REG_WRITE of any value sets to 0. -/
inductive StatCounter where
  | goodFrames | crcErrors | formatErrors | seqGaps | overruns | retrains
  | rowHits | rowMisses | ceCount | ueCount | refreshOverruns
deriving DecidableEq, Repr

/-- What sends a transaction to SINK (R17): an unassigned opcode byte, or a POST_UPDATES count byte of 0 or
above 4. -/
inductive SinkCause where
  | badOpcode (byte : Byte)
  | badCount (count : Byte)
deriving DecidableEq, Repr

/-- The commands of the part, in the order of spec/opcode_table.json. In the immediate commands `crc` is the
request CRC byte that the host sends (R11), and in the register rows `value` is the 32-bit value written. -/
inductive Instr where
  /-- SSEL_N_FALL (R9); `sckHigh` is the level of SCK at the edge (R4). -/
  | sselNFall (sckHigh : Bool)
  /-- STATUS (R20). -/
  | status (crc : Byte)
  /-- REG_READ (R21). -/
  | regRead (index crc : Byte)
  /-- REG_WRITE (R22). -/
  | regWrite (index : Byte) (value : Word) (crc : Byte)
  /-- POST_UPDATES (R23); the count byte is the number of records. -/
  | postUpdates (records : List UpdateRecord) (crc : Byte)
  /-- SUBMIT (R25); parameter byte 0 is the most significant byte of `params`. -/
  | submit (ticket kind : Byte) (params : BitVec 96) (crc : Byte)
  /-- TAKE_COMPLETION (R26). -/
  | takeCompletion (crc : Byte)
  /-- TAKE_READOUT (R27). -/
  | takeReadout (m crc : Byte)
  /-- TAKE_EVENT (R28). -/
  | takeEvent (crc : Byte)
  /-- WAKE (R29, R169). -/
  | wake (crc : Byte)
  /-- SOFT_RESET (R30, R170). -/
  | softReset (crc : Byte)
  /-- EARLY_END (R16); `opcode` is the opcode byte the host sent, which matters only while the port has not
  recorded one (in OPCODE). -/
  | earlyEnd (opcode : Opcode)
  /-- SINK (R17). -/
  | sink (cause : SinkCause)
  /-- TRIM_UP (R66): a REG_WRITE of LANE_CONTROL with ACTION TRIM_UP. -/
  | trimUp (value : Word) (crc : Byte)
  /-- TRIM_DOWN (R66): a REG_WRITE of LANE_CONTROL with ACTION TRIM_DOWN. -/
  | trimDown (value : Word) (crc : Byte)
  /-- LANE_RESET (R72): a REG_WRITE of LANE_CONTROL with ACTION RESET. -/
  | laneReset (value : Word) (crc : Byte)
  /-- LANE_ENABLE (R174): a REG_WRITE of LANE_CONTROL with ACTION NONE. -/
  | laneEnable (value : Word) (crc : Byte)
  /-- ALERT_CLEAR (R156). -/
  | alertClear (value : Word) (crc : Byte)
  /-- EVENT_STATUS (R159). -/
  | eventStatus (value : Word) (crc : Byte)
  /-- STATISTICS_COUNTER_CLEAR (R3). -/
  | statisticsCounterClear (counter : StatCounter) (value : Word) (crc : Byte)
  /-- REGION_STATUS (R92): a REG_WRITE of REGION_STATUS[n] with CLEAR_COUNT 0. -/
  | regionStatus (n : RegionIx) (value : Word) (crc : Byte)
  /-- CLEAR_COUNT (R92): a REG_WRITE of REGION_STATUS[n] with CLEAR_COUNT 1. -/
  | clearCount (n : RegionIx) (value : Word) (crc : Byte)
  /-- ECC_INJECT (R152). -/
  | eccInject (value : Word) (crc : Byte)
  /-- DEFINE (R81): dispatch of the DEFINE at the head of the Command Queue. -/
  | define
  /-- INIT (R83). -/
  | init
  /-- ADOPT (R85). -/
  | adopt
  /-- RETIRE (R86). -/
  | retire
  /-- READ_BIN (R119). -/
  | readBin
  /-- WRITE_BIN (R120). -/
  | writeBin
  /-- SWEEP (R128). -/
  | sweep
  /-- CANCEL_SWEEP (R135). -/
  | cancelSweep
  /-- FENCE (R40). -/
  | fence
  /-- RETAIN (R42). -/
  | retain
  /-- UPDATE_ACCEPTANCE (R88, R110, R112). -/
  | updateAcceptance
  /-- MARKER_REGISTRATION (R122). -/
  | markerRegistration
  /-- COMMIT (R117). -/
  | commit
  /-- COMMIT_COMPLETION (R117). -/
  | commitCompletion
  /-- BIN_READ (R119). -/
  | binRead
  /-- BIN_READ_COMPLETION (R119). -/
  | binReadCompletion
  /-- BIN_WRITE (R120). -/
  | binWrite
  /-- BIN_WRITE_COMPLETION (R120). -/
  | binWriteCompletion
  /-- SWEEP_STEP (R132). -/
  | sweepStep
  /-- SWEEP_STEP_COMPLETION (R132). -/
  | sweepStepCompletion
  /-- TERMINAL_RECORD (R136). -/
  | terminalRecord
  /-- INIT_STEP (R83). -/
  | initStep
  /-- INIT_STEP_COMPLETION (R84). -/
  | initStepCompletion
  /-- REFRESH (R147). -/
  | refresh
  /-- REFRESH_COMPLETION (R146). -/
  | refreshCompletion
  /-- POISON_FILL (R153). -/
  | poisonFill
  /-- POISON_FILL_COMPLETION (R153). -/
  | poisonFillCompletion
  /-- COMPLETION_POST (R46, R47). -/
  | completionPost
  /-- DATA_FRAME (R51, R67 to R70): successive samples of the pins; a frame arrives with the low sample after its
  last nibble. -/
  | dataFrame (samples : List LaneSample)
  /-- TRAINING_FRAME (R51, R60 to R64): as DATA_FRAME. -/
  | trainingFrame (samples : List LaneSample)
  /-- RETURN_MESSAGE (R52). -/
  | returnMessage
  /-- TIMEBASE_TICK (R2). -/
  | timebaseTick
  /-- LINGER_TICK (R114). -/
  | lingerTick
  /-- REFRESH_DUE (R146). -/
  | refreshDue
  /-- SEEK_RETRAIN_REPEAT (R60). -/
  | seekRetrainRepeat
  /-- TRAIN_TIMEOUT (R61). -/
  | trainTimeout
  /-- LANE_STALL (R74). -/
  | laneStall
  /-- POWER_ON_RESET (R165). -/
  | powerOnReset
  /-- PIN_RESET (R165). -/
  | pinReset
  /-- RESET_RELEASE (R165). -/
  | resetRelease
  /-- END_OF_INITIALISATION (R165). -/
  | endOfInitialisation
  /-- ENTER_RETAIN (R167). -/
  | enterRetain
  /-- RESERVED_RECORD (R57). -/
  | reservedRecord
  /-- SWEEP_START (R130). -/
  | sweepStart
  /-- CLEAN_END (R15). -/
  | cleanEnd
  /-- SINK_END (R17). -/
  | sinkEnd
  /-- IGNORED_LOW_PERIOD (R5). -/
  | ignoredLowPeriod
  /-- PAD_RECORD (R57). -/
  | padRecord
deriving DecidableEq, Repr

end Sys2Proof
end

