-- ==== Sys2Proof/Decode.lean ====
section
/-! DEFINITION. The reading of a table word. spec/opcode_table.json gives no row any bits ("fields" is empty
in all 71 rows, and there is no "fixed"), so no word spells a command. The bytes of a Host Port transaction
and of a lane frame are read where they arrive: Machine/Operands.lean and Machine/LaneRx.lean. -/

namespace Sys2Proof

/-- The command that a word spells by the table's bits: none, since no row gives bits. -/
def decodeTableWord (_nbits _w : Nat) : Option Instr := none

end Sys2Proof
end

