-- ==== Sys2Proof/Config.lean ====
section
/-! DEFINITION. What the part fixes once and for all: the sizes of its stores and the limits of its timers.
The spec leaves no value open to the implementation, so there is no free value here. -/

namespace Sys2Proof.Config

/-- Words of the array, addresses 0 to 2,097,151 (R142). -/
def arrayWords : Nat := 2097152

/-- Words that one POISON_FILL operation writes: one row index in all eight banks (R153). -/
def wordsPerRow : Nat := 512

/-- The last row index of the fill (R153). -/
def lastRow : Nat := 4095

/-- Slots of the Merge Buffer (R108, R109). -/
def mergeSlots : Nat := 16

/-- Merges after which an entry is sealed (R110). -/
def mergeLimit : Nat := 255

/-- The AGE at which an entry stays (R114). -/
def maxAge : Nat := 15

/-- Records of the Host Update FIFO (R24). -/
def hostFifoSlots : Nat := 16

/-- Commands of the Command Queue (R31). -/
def commandSlots : Nat := 8

/-- Records of the Completion Queue (R43). -/
def completionSlots : Nat := 8

/-- Frames of the Lane Receive Buffer (R57). -/
def laneSlots : Nat := 4

/-- Messages of the lane's return queue (R52). -/
def returnSlots : Nat := 8

/-- Sweeps of the Sweep Queue (R127). -/
def sweepSlots : Nat := 4

/-- Records of the Readout FIFO (R139). -/
def readoutSlots : Nat := 64

/-- Records of the Event Log (R158). -/
def eventSlots : Nat := 8

/-- The refresh debt at which a REFRESH is forced (R145, R146). -/
def maxDebt : Nat := 6

/-- Timebase ticks between two RETRAINs in SEEK (R60) and without a frame in TRAIN (R61). -/
def laneTimeout : Nat := 64

/-- Frames judged at one trim (R61). -/
def dwellFrames : Nat := 16

/-- DEVICE_ID (R175): FAMILY 0x6D, PART 0x0816, REVISION 0x01. -/
def deviceId : Word := 0x6D081601#32

end Sys2Proof.Config
end

