-- ==== Sys2Proof/Machine/State.lean ====
section
/-! DEFINITION. The state of the GX-0816, block by block, and the state right after reset. Plain data: every
register, queue, table, timer and pin level that the spec names, and the queue of waiting commands. -/

namespace Sys2Proof.Machine

/-! ### Region Table (Chapter 4) -/

/-- FORMAT (R77, R93). -/
inductive Format where
  | u32 | s32 | u64 | s64
deriving DecidableEq, Repr

/-- OPERATOR (R77, R98 to R102). -/
inductive Operator where
  | addSat | addWrap | max | min | last | decayAdd
deriving DecidableEq, Repr

/-- ROUNDING (R77, R96). -/
inductive Rounding where
  | floor | halfUp | halfEven
deriving DecidableEq, Repr

/-- The region state (R76). -/
inductive RegionState where
  | empty | defined | initializing | live
deriving DecidableEq, Repr

/-- A stored region descriptor (R77). -/
structure Descriptor where
  base : BitVec 21
  binsMinus1 : Half
  format : Format
  operator : Operator
  decayShift : BitVec 4
  rounding : Rounding
  inputShift : BitVec 3
  laneOk : Bool
  hostOk : Bool
deriving DecidableEq, Repr

/-- One slot of the Region Table: state, descriptor, the four sticky flags and REJECT_COUNT (R76). -/
structure Region where
  state : RegionState
  desc : Descriptor
  satSeen : Bool
  wrapSeen : Bool
  poisonSeen : Bool
  rejectSeen : Bool
  rejectCount : Half
deriving DecidableEq, Repr

/-! ### Queued commands and completions (Chapter 2) -/

/-- The ten kinds of queued command (R34). -/
inductive CommandKind where
  | define | init | adopt | retire | readBin | writeBin | sweep | cancelSweep | fence | retain
deriving DecidableEq, Repr

/-- A queued command with its remaining mark (R31). Parameter byte 0 is the most significant byte. -/
structure QueuedCommand where
  ticket : Ticket
  kind : CommandKind
  params : BitVec 96
  mark : Nat
deriving DecidableEq, Repr

/-- Which of the two sources an update or a completion comes from (R44, R110). -/
inductive Source where
  | lane | host
deriving DecidableEq, Repr

/-- RESULT codes (R45). -/
inductive Result where
  | ok | state | descriptor | range | overlap | binRange | busy | full | notFound | aborted | refused
deriving DecidableEq, Repr

/-- A completion record (R44); DATA_WORDS is the length of `data`. -/
structure Completion where
  source : Source
  poisoned : Bool
  ticket : Ticket
  result : Result
  data : List Word
deriving DecidableEq, Repr

/-- The descriptor fields a DEFINE carries, before its checks (R34). -/
structure RawDescriptor where
  base : BitVec 24
  binsMinus1 : Half
  format : Byte
  operator : Byte
  decayShift : Byte
  rounding : Byte
  inputShift : Byte
  permits : Byte
deriving DecidableEq, Repr

/-- A region command handed to the Region Controller (R80). -/
inductive RegionCommand where
  | define (ticket : Ticket) (region : RegionIx) (raw : RawDescriptor)
  | init (ticket : Ticket) (region : RegionIx)
  | adopt (ticket : Ticket) (region : RegionIx)
  | retire (ticket : Ticket) (region : RegionIx)
deriving DecidableEq, Repr

/-- The Region Controller: idle; holding a command until its action moment (R80); filling a region, `bin`
being the next bin whose INIT_STEP it requests (R83); or holding a completion until it is posted (R47).
`afterFill` marks the completion of an INIT whose fill has ended, which had already settled (R38). -/
inductive RegionController where
  | idle
  | awaiting (command : RegionCommand)
  | filling (ticket : Ticket) (region : RegionIx) (bin : Nat)
  | posting (completion : Completion) (afterFill : Bool)
deriving DecidableEq, Repr

/-- The Bin Access Unit: idle, holding a command until its operation completes, or holding its completion
(R47, R119, R120). -/
inductive BinUnit where
  | idle
  | read (ticket : Ticket) (region : RegionIx) (bin : BinIx)
  | write (ticket : Ticket) (region : RegionIx) (bin : BinIx) (value : BitVec 64)
  | posting (completion : Completion)
deriving DecidableEq, Repr

/-- The RETAIN command in the Power Manager (R42): none; refused and waiting to post REFUSED; accepted and in
QUIESCING; or entered, its completion posted and the barrier held until WAKE. -/
inductive RetainCommand where
  | none
  | refused (ticket : Ticket)
  | quiescing (ticket : Ticket)
  | retained
deriving DecidableEq, Repr

/-- The two marker wait slots (R122). -/
inductive MarkerSlot where
  | slot0 | slot1
deriving DecidableEq, Repr

/-- The marker wait logic (R122, R123): each busy slot's marker value, the slot that was freed first (used when
both are free) and the earlier-registered slot when both are busy. The wait sets are kept as membership marks
in the merge entries (`Waits`). -/
structure Markers where
  slot0 : Option Half
  slot1 : Option Half
  freedFirst : MarkerSlot
  older : MarkerSlot
deriving DecidableEq, Repr

/-! ### Updates and the Merge Buffer (Chapters 5 and 6) -/

/-- A host update record in the Host Update FIFO (R24). -/
structure HostRecord where
  region : RegionIx
  bin : BinIx
  value : Word
deriving DecidableEq, Repr

/-- The wait sets that hold a merge entry (R121): the fence's and those of the two marker slots. -/
structure Waits where
  fence : Bool
  mark0 : Bool
  mark1 : Bool
deriving DecidableEq, Repr

/-- A merge entry (R108). STATE is `isSealed`, SOURCES is the pair `fromLane`, `fromHost`. -/
structure Entry where
  region : RegionIx
  bin : BinIx
  operator : Operator
  part : Int
  merges : Nat
  isSealed : Bool
  age : Nat
  fromLane : Bool
  fromHost : Bool
  post : Bool
  waits : Waits
deriving DecidableEq, Repr

/-- MERGE_CONTROL (R125). -/
structure MergeControl where
  watermark : BitVec 5
  lingerLimit : BitVec 4
  lingerPeriod : Byte
deriving DecidableEq, Repr

/-! ### Sweeps and readout (Chapter 7) -/

/-- The sweep states (R129). POSTING carries the RESULT it will post, OK or ABORTED. -/
inductive SweepState where
  | queued | running | stalled | closing
  | posting (result : Result)
deriving DecidableEq, Repr

/-- A sweep in the Sweep Queue (R127). The cursor may pass the last bin index, so it is a number. -/
structure Sweep where
  ticket : Ticket
  region : RegionIx
  first : BinIx
  last : BinIx
  isDrain : Bool
  isConsistent : Bool
  tag : Tag
  state : SweepState
  cursor : Nat
deriving DecidableEq, Repr

/-- A readout record (R137); `value` holds the low word only unless `wide`, and is 0 in a terminal record. -/
structure ReadoutRecord where
  seq : Byte
  tag : Tag
  poisoned : Bool
  last : Bool
  truncated : Bool
  wide : Bool
  bin : BinIx
  value : BitVec 64
deriving DecidableEq, Repr

/-! ### Array (Chapter 8) -/

/-- A stored word as its check code shows it (R148): clean; with one bit of data or code flipped, so that it
reads CORRECTED to the value written; with two bits flipped, UNCORRECTABLE; or the poison marker. Which bits
are flipped is not observable (R148, R152). -/
inductive Cell where
  | clean (value : Word)
  | single (value : Word)
  | double (value : Word)
  | marker
deriving DecidableEq, Repr

/-- The array's words: address and stored word, addresses strictly rising, and no entry equal to what an
unlisted address reads as, the poison marker (R153: a word that nothing has written holds the marker). -/
abbrev Memory := List (Nat × Cell)

/-- MODE of ECC_INJECT (R152). -/
inductive EccMode where
  | none | single | double
deriving DecidableEq, Repr

/-- The members of the Array Arbiter's rotation (R145). -/
inductive Member where
  | binAccess | sweep | commit | init
deriving DecidableEq, Repr

/-- What an operation on a counter takes at its grant (R144): the counter, its region's descriptor, the two
words read (`high` counts for 64-bit formats only), the entries withdrawn and those only forwarded, and the
armed injection (R152). -/
structure CounterOp where
  region : RegionIx
  bin : BinIx
  desc : Descriptor
  low : Cell
  high : Cell
  withdrawn : List Entry
  forwarded : List Entry
  inject : EccMode
deriving DecidableEq, Repr

/-- The array operation in progress (R144). -/
inductive ArrayOp where
  | commit (c : CounterOp)
  | binRead (ticket : Ticket) (c : CounterOp)
  | binWrite (ticket : Ticket) (c : CounterOp) (value : BitVec 64)
  | sweepStep (c : CounterOp)
  | initStep (c : CounterOp)
  | refresh
  | poisonFill (row : Nat)
deriving DecidableEq, Repr

/-- The array and its arbiter: words, open row of each bank (R143), the operation in progress, the arbiter's
pointer (R145), the armed injection and whether it was armed during the operation in progress (R152), and
self-refresh (R167). -/
structure CounterArray where
  words : Memory
  banks : Vector (Option (BitVec 12)) 8
  op : Option ArrayOp
  pointer : Member
  ecc : EccMode
  eccRearmed : Bool
  selfRefresh : Bool
deriving DecidableEq, Repr

/-- The Refresh Timer (R146): debt 0 to 6, divider, REFRESH_INTERVAL. -/
structure RefreshTimer where
  debt : Nat
  divider : Nat
  interval : BitVec 6
deriving DecidableEq, Repr

/-! ### The Tally Lane (Chapter 3) -/

/-- The lane states (R58). -/
inductive LaneState where
  | off | seek | train | locked | fault
deriving DecidableEq, Repr

/-- Return messages (R52). -/
inductive LaneMessage where
  | retrain
  | ready (n : BitVec 3)
  | credit
deriving DecidableEq, Repr

/-- The training in progress (R58, R61): AUTO_TRAIN as read on entry, the trim under evaluation, the dwell
count, whether a frame judged at this trim has failed, the scoreboard and the match record (bit t for
trim t). -/
structure Training where
  auto : Bool
  trim : Trim
  dwell : Nat
  failed : Bool
  scoreboard : Half
  matched : Half
deriving DecidableEq, Repr

/-- A frame held in the Lane Receive Buffer: its SEQ and the records not yet handled (R57). -/
structure LaneFrame where
  seq : Byte
  records : List UpdateRecord
deriving DecidableEq, Repr

/-- A frame as the receiver assembles it from its samples (R51): its complete bytes, and whether an odd number
of samples left an incomplete final byte. -/
structure Frame where
  bytes : List Byte
  oddSample : Bool
deriving DecidableEq, Repr

/-- What the receiver knows of the frame on the pins (R51): the last sample found LFRM low; LFRM is high in a run of
samples that is not received (its frame is abandoned, or its start was not sampled); or a frame is in progress, with
its nibbles so far in order. -/
inductive Wire where
  | low
  | high
  | frame (nibbles : List (BitVec 4))
deriving DecidableEq, Repr

/-- The Tally Lane Receiver (R58) with the frame in progress on the pins (R51), its buffer (R57), its park slot
(R111; the parked record stays the head record), the message being sent on LRET (R52: its bits that are still to go,
the one on the pin first, none while LRET is idle) and the stall monitor (R74). -/
structure Lane where
  state : LaneState
  trimInUse : Trim
  training : Training
  expectedSeq : Byte
  errors : BitVec 4
  returnQueue : List LaneMessage
  lret : List Bool
  wire : Wire
  seekTimer : Nat
  trainTimer : Nat
  buffer : List LaneFrame
  parked : Bool
  stallCount : Nat
  stallReported : Bool
deriving DecidableEq, Repr

/-- The fields of LANE_CONTROL (R66, R174) and HOLD_LIMIT (R74). -/
structure LaneControl where
  enable : Bool
  autoTrain : Bool
  trim : Trim
  errLimit : BitVec 4
  holdLimit : Half
deriving DecidableEq, Repr

/-! ### Host Port (Chapter 1) -/

/-- The eight response codes (R12). -/
inductive ResponseCode where
  | accept | empty | armed | full | state | notReady | badCrc | badField
deriving DecidableEq, Repr

/-- The registers of the index map (section 11.1). -/
inductive Register where
  | deviceId | powerStatus | timebase | mergeControl | refreshControl | readoutControl | holdLimit
  | tickCount | laneControl | laneStatus
  | counter (c : StatCounter)
  | alertRaw | alertEnable | alertClear | eventStatus | arrayStatus | eccInject
  | regionStatus (n : RegionIx) | regionDescA (n : RegionIx) | regionDescB (n : RegionIx)
  | mergeStatus | queueStatus
deriving DecidableEq, Repr

/-- What a decided command commits at the clean end (R15). -/
inductive Commit where
  | nothing
  | writeRegister (register : Register) (value : Word)
  | post (records : List HostRecord)
  | submit (ticket : Ticket) (kind : CommandKind) (params : BitVec 96)
  | takeCompletion
  | takeReadout (n : Nat)
  | takeEvent
  | wake
  | arm
  | softReset
deriving DecidableEq, Repr

/-- What is fixed at the decision point (R13): response code, response body, effects to commit. -/
structure Decision where
  code : ResponseCode
  body : List Byte
  commit : Commit
deriving DecidableEq, Repr

/-- The transaction state (R7), with the opcode received and, in RESPONSE, the decision. SINK keeps nothing:
its report has been made (R17). -/
inductive Transaction where
  | idle
  | opcode
  | request (op : Opcode)
  | response (op : Opcode) (decision : Decision)
  | sink
deriving DecidableEq, Repr

/-- SPI clock modes (R4). -/
inductive ClockMode where
  | mode0 | mode3
deriving DecidableEq, Repr

/-- The Host Port: transaction state (R7), clock mode (R4), the status byte sampled at select (R9), the
previous outcome (R12) and the soft-reset arm (R30). -/
structure HostPort where
  tx : Transaction
  mode : ClockMode
  statusByte : Byte
  prevOutcome : Bool
  armed : Bool
deriving DecidableEq, Repr

/-! ### Alerts, events, statistics (Chapter 9), power and time (Chapters 0 and 10) -/

/-- The event codes (R161). -/
inductive EventCode where
  | initialized | softReset | hostFraming | laneCrc | laneFormat | laneSeq | laneOverrun | laneRetrain
  | laneFault | laneReset | laneStall | updateReject | saturated | poisonHit | corrected | uncorrectable
  | refreshOverrun
deriving DecidableEq, Repr

/-- SOURCE of an event record (R160). -/
inductive EventSource where
  | host | lane | engine | array | power
deriving DecidableEq, Repr

/-- An event record (R160); `place` is the region and the bin, both present or both absent (R161). -/
structure Event where
  code : EventCode
  source : EventSource
  place : Option (RegionIx × BinIx)
  detail : Half
  stamp : Half
deriving DecidableEq, Repr

/-- The sticky alert causes (R155). -/
inductive AlertCause where
  | laneState | laneError | laneStall | saturation | integrity | corrected | refresh | hostError | power
deriving DecidableEq, Repr

/-- The sticky causes of ALERT_RAW, bit k for cause k (bits 0 to 2 stay 0 here: the level causes are computed),
and ALERT_ENABLE (R155, R157). -/
structure Alerts where
  sticky : BitVec 12
  enable : BitVec 12
deriving DecidableEq, Repr

/-- The statistics counters (R3). -/
structure Stats where
  goodFrames : Half
  crcErrors : Half
  formatErrors : Half
  seqGaps : Half
  overruns : Half
  retrains : Half
  rowHits : Word
  rowMisses : Word
  ceCount : Half
  ueCount : Half
  refreshOverruns : Half
deriving DecidableEq, Repr

/-- The timebase (R2): the tick count, TB_DIV, and the divider in force for the tick in progress. -/
structure Timebase where
  count : Word
  tbDiv : BitVec 13
  tickDivider : BitVec 13
deriving DecidableEq, Repr

/-- The record that a LANE_STALL report names (R74). -/
inductive StallCause where
  | update (region : RegionIx) (bin : BinIx)
  | mark
deriving DecidableEq, Repr

/-- The steps that the last timebase tick has caused and that have not been taken yet. They fall at the moment
of that tick, before any later event (see `settle` in Machine/Clock.lean). -/
structure Due where
  stall : Option StallCause
  linger : Bool
  refresh : Bool
  seekRepeat : Bool
  trainTimeout : Bool
deriving DecidableEq, Repr

/-- The power states (R164). -/
inductive PowerState where
  | init | run | quiescing | retain
deriving DecidableEq, Repr

/-- The Power Manager (R164, R165): power state; whether a reset is in force (RESET_N low, or power-on reset);
the fill obligation; the next row index of a running POISON_FILL sequence; and, once initialisation has ended,
whether a fill was run (until END_OF_INITIALISATION takes the part to RUN). -/
structure Power where
  state : PowerState
  held : Bool
  fillObligation : Bool
  fillRow : Option Nat
  initEnd : Option Bool
deriving DecidableEq, Repr

/-! ### The whole state -/

/-- The state of the part, and the queue of commands waiting to be taken, first in first out. `moment` is the model's
own: how many records at the tail of the Event Log were logged at the moment that has not ended yet (R158; log entry
16). -/
structure State where
  pending : List Instr
  host : HostPort
  hostFifo : List HostRecord
  hostParked : Bool
  commands : List QueuedCommand
  completions : List Completion
  regionController : RegionController
  binUnit : BinUnit
  fence : Option Ticket
  retain : RetainCommand
  markers : Markers
  lane : Lane
  laneControl : LaneControl
  turn : Source
  regions : Vector Region 16
  entries : List Entry
  mergeControl : MergeControl
  lingerDivider : Nat
  sweeps : List Sweep
  intake : List Completion
  readout : List ReadoutRecord
  readoutSeq : Byte
  readoutWatermark : BitVec 7
  array : CounterArray
  refreshTimer : RefreshTimer
  timebase : Timebase
  due : Due
  alerts : Alerts
  eventLog : List Event
  moment : Nat
  lost : Byte
  stats : Stats
  power : Power
deriving DecidableEq, Repr

/-- Why a step stops with a fault. -/
inductive Fault where
  /-- Raised at the grant of a COMMIT, BIN_READ, BIN_WRITE, SWEEP_STEP or INIT_STEP whose counter would lie on
  word `address`, beyond word 2,097,151, which does not exist (R142). R81 keeps every descriptor inside the
  array, so no run from reset raises it. Safe: the model stops where the spec has no behaviour. -/
  | noSuchWord (address : Nat)
deriving DecidableEq, Repr

/-- Why a step has no meaning. -/
inductive Refusal where
  /-- Raised by an arm of `exec` whose command has no meaning yet. Safe: the model stops. -/
  | notModelled (mnemonic : String)
deriving DecidableEq, Repr

/-! ### Reset values -/

/-- The descriptor of all zeros (R76). -/
def Descriptor.zero : Descriptor :=
  { base := 0#21, binsMinus1 := 0#16, format := .u32, operator := .addSat, decayShift := 0#4,
    rounding := .floor, inputShift := 0#3, laneOk := false, hostOk := false }

/-- An EMPTY slot of the Region Table (R76). -/
def Region.blank : Region :=
  { state := .empty, desc := .zero, satSeen := false, wrapSeen := false, poisonSeen := false,
    rejectSeen := false, rejectCount := 0#16 }

/-- No marker registered; slot 0 is used first after a reset (R122). -/
def Markers.free : Markers :=
  { slot0 := none, slot1 := none, freedFirst := .slot0, older := .slot0 }

/-- No training in progress (DESIGN CHOICE, log entry 6: these fields are cleared at every entry to TRAIN). -/
def Training.none : Training :=
  { auto := true, trim := 0#4, dwell := 0, failed := false, scoreboard := 0#16, matched := 0#16 }

/-- No step outstanding from a tick. -/
def Due.nothing : Due :=
  { stall := none, linger := false, refresh := false, seekRepeat := false, trainTimeout := false }

/-- The lane after a chip reset (R73). No sample has been taken, so a frame must be seen to begin (R51; log entry 10),
and LRET is high (R52). -/
def Lane.reset : Lane :=
  { state := .off, trimInUse := 8#4, training := .none, expectedSeq := 0#8, errors := 0#4,
    returnQueue := [], lret := [], wire := .high, seekTimer := 0, trainTimer := 0, buffer := [], parked := false,
    stallCount := 0, stallReported := false }

/-- All statistics counters at 0 (R154, R73). -/
def Stats.zero : Stats :=
  { goodFrames := 0#16, crcErrors := 0#16, formatErrors := 0#16, seqGaps := 0#16, overruns := 0#16,
    retrains := 0#16, rowHits := 0#32, rowMisses := 0#32, ceCount := 0#16, ueCount := 0#16,
    refreshOverruns := 0#16 }

/-- The machine right after a power-on reset has been released (R165, R171): in INIT with the fill obligation
set and the POISON_FILL for row index 0 requested, every block at its value of the reset table, and no array
word listed. -/
def State.reset : State :=
  { pending := []
    host := { tx := .idle, mode := .mode0, statusByte := 0#8, prevOutcome := false, armed := false }
    hostFifo := []
    hostParked := false
    commands := []
    completions := []
    regionController := .idle
    binUnit := .idle
    fence := none
    retain := .none
    markers := .free
    lane := .reset
    laneControl := { enable := false, autoTrain := true, trim := 8#4, errLimit := 4#4, holdLimit := 1000#16 }
    turn := .lane
    regions := Vector.replicate 16 .blank
    entries := []
    mergeControl := { watermark := 8#5, lingerLimit := 4#4, lingerPeriod := 16#8 }
    lingerDivider := 0
    sweeps := []
    intake := []
    readout := []
    readoutSeq := 0#8
    readoutWatermark := 16#7
    array := { words := [], banks := Vector.replicate 8 none, op := none, pointer := .binAccess, ecc := .none,
               eccRearmed := false, selfRefresh := false }
    refreshTimer := { debt := 0, divider := 0, interval := 7#6 }
    timebase := { count := 0#32, tbDiv := 32#13, tickDivider := 32#13 }
    due := .nothing
    alerts := { sticky := 0#12, enable := 0xFFF#12 }
    eventLog := []
    moment := 0
    lost := 0#8
    stats := .zero
    power := { state := .init, held := false, fillObligation := true, fillRow := some 0, initEnd := none } }

end Sys2Proof.Machine
end

