-- ==== Sys2Proof/Machine/Flags.lean ====
section
/-! DEFINITION. The accumulation arithmetic of Chapter 5 on exact integers: formats, rounding, input scaling, the
six operators with the flags they raise, and the merge combinations. -/

namespace Sys2Proof.Machine

/-! ### Formats (R93) -/

/-- Whether the format is signed (R93). -/
def Format.signed : Format → Bool
  | .u32 | .u64 => false
  | .s32 | .s64 => true

/-- Whether a counter of the format has two words (R93). -/
def Format.wide : Format → Bool
  | .u32 | .s32 => false
  | .u64 | .s64 => true

/-- Words per counter (R93). -/
def Format.words (f : Format) : Nat := if f.wide then 2 else 1

/-- Counter width in bits (R93). -/
def Format.width (f : Format) : Nat := if f.wide then 64 else 32

/-- The least value of the format (R93). -/
def Format.minimum (f : Format) : Int := if f.signed then -(2 ^ (f.width - 1)) else 0

/-- The greatest value of the format (R93). -/
def Format.maximum (f : Format) : Int := if f.signed then 2 ^ (f.width - 1) - 1 else 2 ^ f.width - 1

/-- The value that a stored counter holds; `bits` is the high word over the low word (R93). -/
def Format.decode (f : Format) (bits : BitVec 64) : Int :=
  match f with
  | .u32 => (bits.extractLsb' 0 32).toNat
  | .s32 => (bits.extractLsb' 0 32).toInt
  | .u64 => bits.toNat
  | .s64 => bits.toInt

/-- The bits in which a value is stored; a 32-bit counter uses the low word only (R93). -/
def Format.encode (f : Format) (x : Int) : BitVec 64 :=
  if f.wide then BitVec.ofInt 64 x else (BitVec.ofInt 32 x).zeroExtend 64

/-- The value lies in the format's range (R93). -/
def Format.holds (f : Format) (x : Int) : Bool := f.minimum ≤ x && x ≤ f.maximum

/-- Clamping into the format's range (section 5.3). -/
def Format.clamp (f : Format) (x : Int) : Int :=
  if x < f.minimum then f.minimum else if f.maximum < x then f.maximum else x

/-- Reduction into the format's range modulo 2^width (R99). -/
def Format.reduce (f : Format) (x : Int) : Int :=
  if f.signed then Int.bmod x (2 ^ f.width) else x % 2 ^ f.width

/-- The reset value of a counter, as bits (R87). -/
def resetBits (op : Operator) (f : Format) : BitVec 64 :=
  match op with
  | .max => f.encode f.minimum
  | .min => f.encode f.maximum
  | .addSat | .addWrap | .last | .decayAdd => 0#64

/-! ### Rounding and scaling -/

/-- The rounded quotient of n by 2^s (R96). -/
def roundedQuotient (r : Rounding) (n : Int) (s : Nat) : Int :=
  let q := n / 2 ^ s
  let rest := 2 * (n % 2 ^ s)
  match r with
  | .floor => q
  | .halfUp => if (2 : Int) ^ s ≤ rest then q + 1 else q
  | .halfEven =>
    if rest < 2 ^ s then q else if 2 ^ s < rest then q + 1 else if q % 2 = 0 then q else q + 1

/-- The scaled value of an admitted update (R97). -/
def scaledValue (d : Descriptor) (value : Word) : Int :=
  roundedQuotient d.rounding value.toInt d.inputShift.toNat

/-! ### Operators (R98 to R102) -/

/-- What one application gives: the new value and the flags it sets. -/
structure Applied where
  value : Int
  sat : Bool
  wrap : Bool
deriving DecidableEq, Repr

/-- P* of MAX, MIN and LAST: a negative partial counts as 0 in an unsigned format (R100, R101). -/
def Format.unsignedFloor (f : Format) (p : Int) : Int := if !f.signed && p < 0 then 0 else p

/-- One application of a partial to a stored value (R98 to R102). -/
def applyOperator (op : Operator) (d : Descriptor) (x p : Int) : Applied :=
  let f := d.format
  match op with
  | .addSat => { value := f.clamp (x + p), sat := !f.holds (x + p), wrap := false }
  | .addWrap => { value := f.reduce (x + p), sat := false, wrap := !f.holds (x + p) }
  | .max => { value := Max.max x (f.unsignedFloor p), sat := false, wrap := false }
  | .min => { value := Min.min x (f.unsignedFloor p), sat := false, wrap := false }
  | .last => { value := f.unsignedFloor p, sat := !f.signed && p < 0, wrap := false }
  | .decayAdd =>
    let exact := x - roundedQuotient d.rounding x d.decayShift.toNat + p
    { value := f.clamp exact, sat := !f.holds exact, wrap := false }

/-- The applications of several entries in age order, each on the result of the one before (R94); a flag is
set if any application sets it (R104). -/
def applyEntries (d : Descriptor) (x : Int) (entries : List Entry) : Applied :=
  entries.foldl
    (fun a e =>
      let b := applyOperator e.operator d a.value e.part
      { value := b.value, sat := a.sat || b.sat, wrap := a.wrap || b.wrap })
    { value := x, sat := false, wrap := false }

/-! ### Merging (R105) -/

/-- An ADD_SAT update of the opposite sign needs the OPEN entry sealed first; DECAY_ADD never merges (R105). -/
def mergeAllowed (op : Operator) (p v : Int) : Bool :=
  match op with
  | .addSat => !((p < 0 && 0 < v) || (0 < p && v < 0))
  | .addWrap | .max | .min | .last => true
  | .decayAdd => false

/-- The merged partial (R105). -/
def mergedPartial (op : Operator) (p v : Int) : Int :=
  match op with
  | .addSat | .addWrap | .decayAdd => p + v
  | .max => Max.max p v
  | .min => Min.min p v
  | .last => v

end Sys2Proof.Machine
end

