-- ==== Sys2Proof/Machine/Operands.lean ====
section
/-! DEFINITION. How operands are laid out in bits and bytes: byte and bit order, the nibbles of a frame, codes, the
update record, the parameter bytes of the queued kinds, and the records the host takes. Every multi-byte field has its
most significant byte first, and every byte its most significant bit (R1). -/

namespace Sys2Proof.Machine

/-! ### Byte and bit order -/

/-- The bits of a byte in the order in which they travel, the most significant first (R1). -/
def byteBits (b : Byte) : List Bool := (List.range 8).map b.getMsbD

/-- The bits of some bytes in the order in which they travel (R1). -/
def bytesBits (bytes : List Byte) : List Bool := bytes.flatMap byteBits

/-- The frame of some nibbles: each pair makes a byte, its high nibble first; a nibble without a partner leaves the
final byte incomplete (R1, R51). -/
def frameOfNibbles : List (BitVec 4) → Frame
  | [] => { bytes := [], oddSample := false }
  | [_] => { bytes := [], oddSample := true }
  | high :: low :: rest =>
    let f := frameOfNibbles rest
    { f with bytes := (high ++ low : BitVec 8) :: f.bytes }

/-- A 16-bit field on the link (R1). -/
def halfBytes (h : Half) : List Byte := [h.extractLsb' 8 8, h.extractLsb' 0 8]

/-- A 32-bit field on the link (R1). -/
def wordBytes (w : Word) : List Byte :=
  [w.extractLsb' 24 8, w.extractLsb' 16 8, w.extractLsb' 8 8, w.extractLsb' 0 8]

/-- The low word of a 64-bit quantity. -/
def lowWord (v : BitVec 64) : Word := v.extractLsb' 0 32

/-- The high word of a 64-bit quantity. -/
def highWord (v : BitVec 64) : Word := v.extractLsb' 32 32

/-- The 12 parameter bytes of a SUBMIT in order (R25). -/
def paramBytes (p : BitVec 96) : List Byte :=
  wordBytes (p.extractLsb' 64 32) ++ wordBytes (p.extractLsb' 32 32) ++ wordBytes (p.extractLsb' 0 32)

/-! ### Codes -/

/-- Opcode bytes (R10). -/
def opcodeByte : Opcode → Byte
  | .status => 0x05#8
  | .regRead => 0x10#8
  | .regWrite => 0x11#8
  | .postUpdates => 0x20#8
  | .submit => 0x30#8
  | .takeCompletion => 0x40#8
  | .takeReadout => 0x41#8
  | .takeEvent => 0x42#8
  | .wake => 0x50#8
  | .softReset => 0x5A#8

/-- Response code bytes (R12). -/
def responseByte : ResponseCode → Byte
  | .accept => 0x00#8
  | .empty => 0x01#8
  | .armed => 0x02#8
  | .full => 0x10#8
  | .state => 0x11#8
  | .notReady => 0x12#8
  | .badCrc => 0x20#8
  | .badField => 0x21#8

/-- Whether a response code sets ERR in the next status byte (R12). -/
def responseIsError : ResponseCode → Bool
  | .accept | .empty | .armed => false
  | .full | .state | .notReady | .badCrc | .badField => true

/-- RESULT bytes (R45). -/
def resultByte : Result → Byte
  | .ok => 0x00#8
  | .state => 0x01#8
  | .descriptor => 0x02#8
  | .range => 0x03#8
  | .overlap => 0x04#8
  | .binRange => 0x05#8
  | .busy => 0x06#8
  | .full => 0x07#8
  | .notFound => 0x08#8
  | .aborted => 0x09#8
  | .refused => 0x0A#8

/-- CODE bytes of events (R161). -/
def eventByte : EventCode → Byte
  | .initialized => 0x01#8
  | .softReset => 0x02#8
  | .hostFraming => 0x10#8
  | .laneCrc => 0x20#8
  | .laneFormat => 0x21#8
  | .laneSeq => 0x22#8
  | .laneOverrun => 0x23#8
  | .laneRetrain => 0x24#8
  | .laneFault => 0x25#8
  | .laneReset => 0x26#8
  | .laneStall => 0x27#8
  | .updateReject => 0x30#8
  | .saturated => 0x31#8
  | .poisonHit => 0x32#8
  | .corrected => 0x40#8
  | .uncorrectable => 0x41#8
  | .refreshOverrun => 0x42#8

/-- SOURCE of an event record (R160). -/
def eventSourceBits : EventSource → BitVec 3
  | .host => 0#3
  | .lane => 1#3
  | .engine => 2#3
  | .array => 3#3
  | .power => 4#3

/-- Return message bytes (R52). -/
def laneMessageByte : LaneMessage → Byte
  | .retrain => 0x3C#8
  | .ready n => 0x90#8 + n.zeroExtend 8
  | .credit => 0x6A#8

/-- A return message on LRET: a start bit at 0, the message byte most significant bit first, a stop bit at 1 (R52). -/
def laneMessageBits (m : LaneMessage) : List Bool := false :: byteBits (laneMessageByte m) ++ [true]

/-- Power state codes (R20). -/
def powerStateCode : PowerState → BitVec 2
  | .init => 0#2
  | .run => 1#2
  | .quiescing => 2#2
  | .retain => 3#2

/-- Region state codes (R76). -/
def regionStateCode : RegionState → BitVec 2
  | .empty => 0#2
  | .defined => 1#2
  | .initializing => 2#2
  | .live => 3#2

/-- Lane state codes (section 11.3). -/
def laneStateCode : LaneState → BitVec 3
  | .off => 0#3
  | .seek => 1#3
  | .train => 2#3
  | .locked => 3#3
  | .fault => 4#3

/-- Head sweep state codes (R127). -/
def sweepStateCode : SweepState → BitVec 3
  | .queued => 1#3
  | .running => 2#3
  | .stalled => 3#3
  | .closing => 4#3
  | .posting _ => 5#3

/-- FORMAT encodings (R34, R93). -/
def formatCode : Format → BitVec 2
  | .u32 => 0#2
  | .s32 => 1#2
  | .u64 => 2#2
  | .s64 => 3#2

/-- OPERATOR encodings (R34). -/
def operatorCode : Operator → BitVec 3
  | .addSat => 0#3
  | .addWrap => 1#3
  | .max => 2#3
  | .min => 3#3
  | .last => 4#3
  | .decayAdd => 5#3

/-- ROUNDING encodings (R34, R96). -/
def roundingCode : Rounding → BitVec 2
  | .floor => 0#2
  | .halfUp => 1#2
  | .halfEven => 2#2

/-- MODE of ECC_INJECT (R152). -/
def eccModeCode : EccMode → BitVec 2
  | .none => 0#2
  | .single => 1#2
  | .double => 2#2

/-- FORMAT of a DEFINE, none above 3 (R34, R81). -/
def formatOfByte (b : Byte) : Option Format :=
  if b = 0#8 then some .u32 else if b = 1#8 then some .s32 else if b = 2#8 then some .u64
  else if b = 3#8 then some .s64 else none

/-- OPERATOR of a DEFINE, none above 5 (R34, R81). -/
def operatorOfByte (b : Byte) : Option Operator :=
  if b = 0#8 then some .addSat else if b = 1#8 then some .addWrap else if b = 2#8 then some .max
  else if b = 3#8 then some .min else if b = 4#8 then some .last else if b = 5#8 then some .decayAdd
  else none

/-- ROUNDING of a DEFINE, none above 2 (R34, R81). -/
def roundingOfByte (b : Byte) : Option Rounding :=
  if b = 0#8 then some .floor else if b = 1#8 then some .halfUp else if b = 2#8 then some .halfEven
  else none

/-- The kind byte of a SUBMIT, none for a value not in the table (R34). -/
def kindOfByte (b : Byte) : Option CommandKind :=
  if b = 0x01#8 then some .define else if b = 0x02#8 then some .init else if b = 0x03#8 then some .adopt
  else if b = 0x04#8 then some .retire else if b = 0x10#8 then some .readBin
  else if b = 0x11#8 then some .writeBin else if b = 0x20#8 then some .sweep
  else if b = 0x21#8 then some .cancelSweep else if b = 0x30#8 then some .fence
  else if b = 0x31#8 then some .retain else none

/-! ### The update record (R56) -/

/-- TYPE bits of an update record (R56). -/
def recordTypeBits : RecordType → BitVec 2
  | .pad => 0#2
  | .update => 1#2
  | .mark => 2#2
  | .reserved => 3#2

/-- TYPE from its bits (R56). -/
def recordTypeOfBits (b : BitVec 2) : RecordType :=
  if b = 0#2 then .pad else if b = 1#2 then .update else if b = 2#2 then .mark else .reserved

/-- The seven bytes of an update record (R56). -/
def updateRecordBytes (r : UpdateRecord) : List Byte :=
  (recordTypeBits r.type ++ r.ignored ++ r.region : BitVec 8) :: (halfBytes r.bin ++ wordBytes r.value)

/-- An update record from its seven bytes (R56). -/
def updateRecordOfBytes (b0 b1 b2 b3 b4 b5 b6 : Byte) : UpdateRecord :=
  { type := recordTypeOfBits (b0.extractLsb' 6 2)
    ignored := b0.extractLsb' 4 2
    region := b0.extractLsb' 0 4
    bin := b1 ++ b2
    value := b3 ++ b4 ++ b5 ++ b6 }

/-- The records of a frame body, seven bytes each (R53). -/
def parseRecords : List Byte → List UpdateRecord
  | b0 :: b1 :: b2 :: b3 :: b4 :: b5 :: b6 :: rest =>
    updateRecordOfBytes b0 b1 b2 b3 b4 b5 b6 :: parseRecords rest
  | _ => []

/-- What the Host Update FIFO keeps of a posted record (R24). -/
def hostRecordOf (r : UpdateRecord) : HostRecord :=
  { region := r.region, bin := r.bin, value := r.value }

/-! ### Parameter bytes of the queued kinds (R34) -/

/-- Parameter byte i, 0 to 11 (R34). -/
def paramByte (p : BitVec 96) (i : Nat) : Byte := p.extractLsb' (8 * (11 - i)) 8

/-- Parameter bytes i and i + 1 as one field (R34). -/
def paramHalf (p : BitVec 96) (i : Nat) : Half := paramByte p i ++ paramByte p (i + 1)

/-- The region parameter, byte 0, of the kinds that have one (R34). -/
def paramRegion (p : BitVec 96) : RegionIx := (paramByte p 0).extractLsb' 0 4

/-- The 8-byte VALUE of a WRITE_BIN, bytes 3 to 10, high word first (R34). -/
def paramValue (p : BitVec 96) : BitVec 64 := p.extractLsb' 8 64

/-- No used parameter byte holds an encoding that R34 marks reserved. -/
def goodParams (kind : CommandKind) (p : BitVec 96) : Bool :=
  match kind with
  | .define | .init | .adopt | .retire | .readBin | .writeBin => (paramByte p 0).toNat ≤ 15
  | .sweep =>
    (paramByte p 0).toNat ≤ 15 && (paramByte p 5).toNat ≤ 1 && (paramByte p 6).toNat ≤ 1
      && (paramByte p 7).toNat ≤ 15
  | .cancelSweep => (paramByte p 0).toNat ≤ 15
  | .fence => (paramByte p 0).toNat ≤ 1
  | .retain => true

/-- The descriptor parameters of a DEFINE (R34). -/
def rawDescriptorOf (p : BitVec 96) : RawDescriptor :=
  { base := paramByte p 1 ++ paramByte p 2 ++ paramByte p 3
    binsMinus1 := paramHalf p 4
    format := paramByte p 6
    operator := paramByte p 7
    decayShift := paramByte p 8
    rounding := paramByte p 9
    inputShift := paramByte p 10
    permits := paramByte p 11 }

/-- The sweep of a SWEEP command, QUEUED with its cursor at FIRST (R34, R128). -/
def sweepOf (ticket : Ticket) (p : BitVec 96) : Sweep :=
  { ticket := ticket
    region := paramRegion p
    first := paramHalf p 1
    last := paramHalf p 3
    isDrain := paramByte p 5 = 1#8
    isConsistent := paramByte p 6 = 1#8
    tag := (paramByte p 7).extractLsb' 0 4
    state := .queued
    cursor := (paramHalf p 1).toNat }

/-! ### Records the host takes -/

/-- A bit as a one-bit vector. -/
def bit (b : Bool) : BitVec 1 := BitVec.ofBool b

/-- The bytes of a completion record (R44). -/
def completionBytes (c : Completion) : List Byte :=
  (bit (c.source = .lane) ++ bit c.poisoned ++ BitVec.ofNat 2 c.data.length ++ c.ticket : BitVec 8)
    :: resultByte c.result :: c.data.flatMap wordBytes

/-- The bytes of a readout record (R137). -/
def readoutBytes (r : ReadoutRecord) : List Byte :=
  [r.seq, (r.tag ++ bit r.poisoned ++ bit r.last ++ bit r.truncated ++ bit r.wide : BitVec 8)]
    ++ halfBytes r.bin
    ++ (if r.truncated then []
        else if r.wide then wordBytes (highWord r.value) ++ wordBytes (lowWord r.value)
        else wordBytes (lowWord r.value))

/-- The nine bytes of an event record (R160). -/
def eventBytes (e : Event) : List Byte :=
  let present := bit e.place.isSome
  [eventByte e.code, (eventSourceBits e.source ++ 0#3 ++ present ++ present : BitVec 8),
    (e.place.elim 0#4 Prod.fst).zeroExtend 8]
    ++ halfBytes (e.place.elim 0#16 Prod.snd) ++ halfBytes e.detail ++ halfBytes e.stamp

end Sys2Proof.Machine
end

