-- ==== Sys2Proof/Machine/Ops.lean ====
section
/-! DEFINITION. The named operations over the state that the meanings share: array words, banks, the Region
Table, alerts, events, statistics, the return queue, and the Merge Buffer's list. -/

namespace Sys2Proof.Machine

/-! ### Saturating counts (R3) -/

/-- A count that stays at its greatest value (R3). -/
def satInc {w : Nat} (x : BitVec w) : BitVec w := if x = BitVec.allOnes w then x else x + 1

/-- The value of a statistics counter, as a register (R75, R143, R147, R149, R150). -/
def statValue (st : Stats) : StatCounter → Word
  | .goodFrames => st.goodFrames.zeroExtend 32
  | .crcErrors => st.crcErrors.zeroExtend 32
  | .formatErrors => st.formatErrors.zeroExtend 32
  | .seqGaps => st.seqGaps.zeroExtend 32
  | .overruns => st.overruns.zeroExtend 32
  | .retrains => st.retrains.zeroExtend 32
  | .rowHits => st.rowHits
  | .rowMisses => st.rowMisses
  | .ceCount => st.ceCount.zeroExtend 32
  | .ueCount => st.ueCount.zeroExtend 32
  | .refreshOverruns => st.refreshOverruns.zeroExtend 32

/-- One cause of a statistics counter (R3). -/
def statCount (st : Stats) : StatCounter → Stats
  | .goodFrames => { st with goodFrames := satInc st.goodFrames }
  | .crcErrors => { st with crcErrors := satInc st.crcErrors }
  | .formatErrors => { st with formatErrors := satInc st.formatErrors }
  | .seqGaps => { st with seqGaps := satInc st.seqGaps }
  | .overruns => { st with overruns := satInc st.overruns }
  | .retrains => { st with retrains := satInc st.retrains }
  | .rowHits => { st with rowHits := satInc st.rowHits }
  | .rowMisses => { st with rowMisses := satInc st.rowMisses }
  | .ceCount => { st with ceCount := satInc st.ceCount }
  | .ueCount => { st with ueCount := satInc st.ueCount }
  | .refreshOverruns => { st with refreshOverruns := satInc st.refreshOverruns }

/-- A statistics counter set to 0 (R3). -/
def statClear (st : Stats) : StatCounter → Stats
  | .goodFrames => { st with goodFrames := 0#16 }
  | .crcErrors => { st with crcErrors := 0#16 }
  | .formatErrors => { st with formatErrors := 0#16 }
  | .seqGaps => { st with seqGaps := 0#16 }
  | .overruns => { st with overruns := 0#16 }
  | .retrains => { st with retrains := 0#16 }
  | .rowHits => { st with rowHits := 0#32 }
  | .rowMisses => { st with rowMisses := 0#32 }
  | .ceCount => { st with ceCount := 0#16 }
  | .ueCount => { st with ueCount := 0#16 }
  | .refreshOverruns => { st with refreshOverruns := 0#16 }

/-- The state with one cause counted (R3). -/
def State.count (s : State) (c : StatCounter) : State := { s with stats := statCount s.stats c }

/-! ### Array words (R142, R148, R153) -/

/-- The word at an address; an address not listed holds the poison marker (R153). -/
def Memory.read : Memory → Nat → Cell
  | [], _ => .marker
  | (k, c) :: rest, a => if k = a then c else Memory.read rest a

/-- A write of one word, keeping the list in its canonical form. -/
def Memory.write : Memory → Nat → Cell → Memory
  | [], a, c => if c = .marker then [] else [(a, c)]
  | (k, d) :: rest, a, c =>
    if k < a then (k, d) :: Memory.write rest a c
    else if k = a then (if c = .marker then rest else (a, c) :: rest)
    else if c = .marker then (k, d) :: rest
    else (a, c) :: (k, d) :: rest

/-- The marker written to all words of one row index (R153). -/
def Memory.poisonRow (m : Memory) (row : Nat) : Memory :=
  m.filter fun p => p.1 / Config.wordsPerRow != row

/-- The canonical form: addresses strictly rising, no entry that holds the marker. -/
def Memory.wf : Memory → Bool
  | [] => true
  | (k, c) :: rest => c != .marker && rest.all (fun p => k < p.1) && Memory.wf rest

/-- The value an operation uses of a word, 0 where it has none (R148). -/
def Cell.value : Cell → Word
  | .clean v | .single v => v
  | .double _ | .marker => 0#32

/-- The word reads CORRECTED (R148). -/
def Cell.isCorrected : Cell → Bool
  | .single _ => true
  | .clean _ | .double _ | .marker => false

/-- The word reads UNCORRECTABLE (R148). -/
def Cell.isUncorrectable : Cell → Bool
  | .double _ => true
  | .clean _ | .single _ | .marker => false

/-- The word makes its counter poisoned (R148). -/
def Cell.isPoison : Cell → Bool
  | .double _ | .marker => true
  | .clean _ | .single _ => false

/-- A word as stored under an injection (R152). -/
def injectedCell (mode : EccMode) (v : Word) : Cell :=
  match mode with
  | .none => .clean v
  | .single => .single v
  | .double => .double v

/-! ### Counters (R78) and banks (R142, R143) -/

/-- The word address of a bin's counter, its low half in a 64-bit format (R78). -/
def counterAddress (d : Descriptor) (b : BinIx) : Nat := d.base.toNat + d.format.words * b.toNat

/-- The address of the last word of a bin's counter (R78). -/
def counterLastWord (d : Descriptor) (b : BinIx) : Nat := counterAddress d b + d.format.words - 1

/-- The addresses of a bin's words. -/
def counterWords (d : Descriptor) (b : BinIx) : List Nat :=
  if d.format.wide then [counterAddress d b, counterAddress d b + 1] else [counterAddress d b]

/-- The bank of a word address (R142). -/
def bankOf (a : Nat) : Fin 8 := ⟨a % 8, Nat.mod_lt _ (by decide)⟩

/-- The row of a word address (R142). -/
def rowOf (a : Nat) : BitVec 12 := BitVec.ofNat 12 (a / 512)

/-- The column of a word address (R142). -/
def columnOf (a : Nat) : BitVec 6 := BitVec.ofNat 6 (a / 8 % 64)

/-- Every bank CLOSED (R143). -/
def closedBanks : Vector (Option (BitVec 12)) 8 := Vector.replicate 8 none

/-- One access: a row hit or a row miss, after which the bank is OPEN on the row (R143). -/
def State.access (s : State) (a : Nat) : State :=
  let hit := s.array.banks[bankOf a] = some (rowOf a)
  { s.count (if hit then .rowHits else .rowMisses) with
    array := { s.array with banks := s.array.banks.set (bankOf a) (some (rowOf a)) } }

/-- The number of OPEN banks (ARRAY_STATUS, R143). -/
def openBanks (a : CounterArray) : Nat := a.banks.toList.countP Option.isSome

/-! ### Region Table -/

/-- The slot of a region (R76). -/
def State.region (s : State) (r : RegionIx) : Region := s.regions[r.toNat]'r.isLt

/-- The Region Table with one slot replaced (R76). -/
def State.setRegion (s : State) (r : RegionIx) (reg : Region) : State :=
  { s with regions := s.regions.set r.toNat reg r.isLt }

/-- Number of bins of a region (R77). -/
def Descriptor.bins (d : Descriptor) : Nat := d.binsMinus1.toNat + 1

/-- Number of words a region spans (R78). -/
def Descriptor.span (d : Descriptor) : Nat := d.format.words * d.bins

/-! ### Alerts (R155 to R157) -/

/-- The ALERT_RAW bit of a sticky cause (R155). -/
def alertBit : AlertCause → BitVec 12
  | .laneState => 1#12 <<< 3
  | .laneError => 1#12 <<< 4
  | .laneStall => 1#12 <<< 5
  | .saturation => 1#12 <<< 6
  | .integrity => 1#12 <<< 7
  | .corrected => 1#12 <<< 8
  | .refresh => 1#12 <<< 9
  | .hostError => 1#12 <<< 10
  | .power => 1#12 <<< 11

/-- A sticky cause is set (R155). -/
def State.raise (s : State) (c : AlertCause) : State :=
  { s with alerts := { s.alerts with sticky := s.alerts.sticky ||| alertBit c } }

/-- The READOUT level (R140). -/
def readoutLevel (s : State) : Bool :=
  s.readoutWatermark.toNat ≤ s.readout.length || s.readout.any ReadoutRecord.last

/-- The level causes, bits 0 to 2 of ALERT_RAW (R155). -/
def levelCauses (s : State) : BitVec 12 :=
  ((0#9 ++ BitVec.ofBool (!s.eventLog.isEmpty) ++ BitVec.ofBool (readoutLevel s)
    ++ BitVec.ofBool (!s.completions.isEmpty) : BitVec 12))

/-- ALERT_RAW (R155): the level causes in bits 0 to 2, the sticky causes in bits 3 to 11. -/
def alertRaw (s : State) : BitVec 12 := levelCauses s ||| (s.alerts.sticky &&& 0xFF8#12)

/-- ALERT_N is driven low (R157). -/
def alertActive (s : State) : Bool := alertRaw s &&& s.alerts.enable != 0#12

/-! ### Events (R158 to R161) -/

/-- An event record stamped with the present tick count (R160). -/
def State.event (s : State) (code : EventCode) (source : EventSource) (place : Option (RegionIx × BinIx))
    (detail : Half) : Event :=
  { code, source, place, detail, stamp := s.timebase.count.extractLsb' 0 16 }

/-- An event takes its place among others of the same moment: ascending CODE, and for one code the order in
which the causes were taken (R158). -/
def insertEvent (e : Event) : List Event → List Event
  | [] => [e]
  | f :: rest => if eventByte e.code < eventByte f.code then e :: f :: rest else f :: insertEvent e rest

/-- The Event Log with one more event in its place among those of the present moment, behind every earlier one
(R158). -/
def State.logged (s : State) (e : Event) : List Event :=
  let earlier := s.eventLog.length - s.moment
  s.eventLog.take earlier ++ insertEvent e (s.eventLog.drop earlier)

/-- One event is logged; with the log full, the last of the moment's events is lost and counted (R158, R159). -/
def State.log (s : State) (e : Event) : State :=
  if s.eventLog.length < Config.eventSlots then { s with eventLog := s.logged e, moment := s.moment + 1 }
  else { s with eventLog := (s.logged e).dropLast, lost := satInc s.lost }

/-- The moment ends: what is logged from now on comes behind (R158). -/
def State.endMoment (s : State) : State := { s with moment := 0 }

/-! ### The lane's return queue and buffer (R52, R57, R71) -/

/-- A return message is generated; it is discarded when 8 are waiting (R52). -/
def Lane.send (l : Lane) (m : LaneMessage) : Lane :=
  if l.returnQueue.length < Config.returnSlots then { l with returnQueue := l.returnQueue ++ [m] } else l

/-- What is left of a frame in progress when the lane changes its state: the rest of its samples is not received
(R51). -/
def Wire.abandon : Wire → Wire
  | .low => .low
  | .high | .frame _ => .high

/-- Entry to SEEK (R60); a frame in progress is abandoned (R51). -/
def Lane.enterSeek (l : Lane) : Lane :=
  { l with
    state := .seek, returnQueue := [.retrain], errors := 0#4, seekTimer := 0, training := .none
    wire := l.wire.abandon }

/-- Entry to OFF (R52, R59), where no samples are taken (R51). -/
def Lane.enterOff (l : Lane) : Lane :=
  { l with
    state := .off, returnQueue := [], training := .none, seekTimer := 0, trainTimer := 0, wire := .high }

/-- The level of LRET: high while no message is being sent (R52). -/
def Lane.lretLevel (l : Lane) : Bool := l.lret.head?.getD true

/-- The stall episode ends (R74). -/
def Lane.endStall (l : Lane) : Lane := { l with stallCount := 0, stallReported := false }

/-- A CREDIT, generated only in LOCKED and not in QUIESCING (R71). -/
def State.credit (s : State) : State :=
  if s.lane.state = .locked ∧ s.power.state ≠ .quiescing then { s with lane := s.lane.send .credit } else s

/-- The head record of the Lane Receive Buffer with the SEQ of its frame (R57). -/
def Lane.head (l : Lane) : Option (Byte × UpdateRecord) :=
  match l.buffer with
  | [] => none
  | f :: _ => f.records.head?.map fun r => (f.seq, r)

/-- The buffer once its head record has been handled (R57). -/
def bufferAfterHead : List LaneFrame → List LaneFrame
  | [] => []
  | f :: rest => if f.records.tail.isEmpty then rest else { f with records := f.records.tail } :: rest

/-- The head record is handled: it leaves the park slot and the stall episode ends; when it was its frame's last,
the slot frees, with a CREDIT where R71 gives one (R57, R74). -/
def State.laneHandled (s : State) : State :=
  let buffer := bufferAfterHead s.lane.buffer
  let s' := { s with lane := { s.lane.endStall with buffer := buffer, parked := false } }
  if buffer.length < s.lane.buffer.length then s'.credit else s'

/-! ### Records that the lane handles itself (R57) -/

/-- A PAD at the head is dropped (R57). -/
def State.padRecord (s : State) : State :=
  match s.lane.head with
  | some (_, r) => if r.type = .pad then s.laneHandled else s
  | none => s

/-- A reserved-TYPE record at the head is dropped, counted and reported with reason RECORD and its frame's SEQ
(R57). DEDUCED (log entry 24): R60 says that the frames of SEEK increment no lane counter, R57 and R75 that each
reserved-TYPE record handled is counted, and R57 that records are released whatever the lane state; a record held from
before counts in SEEK too. -/
def State.reservedRecord (s : State) : State :=
  match s.lane.head with
  | some (q, r) =>
    if r.type = .reserved then
      ((s.laneHandled.count .formatErrors).log (s.event .laneFormat .lane none (4#8 ++ q))).raise .laneError
    else s
  | none => s

/-- The head record is one that is handled at once: a PAD or a reserved TYPE (R57). -/
def Lane.ownHead (l : Lane) : Bool :=
  match l.head with
  | some (_, r) => r.type = .pad || r.type = .reserved
  | none => false

/-- PAD and reserved-TYPE records at the head are handled, one after another, until another head stands or `n` runs
out (R57). -/
def State.ownRecords (s : State) : Nat → State
  | 0 => s
  | n + 1 => if s.lane.ownHead then s.padRecord.reservedRecord.ownRecords n else s

/-- The records held in the Lane Receive Buffer. -/
def Lane.records (l : Lane) : Nat := (l.buffer.map fun f => f.records.length).sum

/-- Every PAD and reserved-TYPE record that stands or comes to stand at the head is handled at once (R57). -/
def State.handleOwn (s : State) : State := s.ownRecords s.lane.records

/-! ### The Host Update FIFO (R24, R33) -/

/-- The head host record reaches the acceptance point and departs: every queued command's remaining mark falls
by one, staying at 0 (R24, R33). -/
def State.hostDeparted (s : State) : State :=
  { s with
    hostFifo := s.hostFifo.tail
    hostParked := false
    commands := s.commands.map fun c => { c with mark := c.mark - 1 } }

/-! ### The Merge Buffer's list (R108, R109, R116) -/

/-- The entries withdrawn by the operation in progress (R116). -/
def ArrayOp.withdrawn : ArrayOp → List Entry
  | .commit c | .binRead _ c | .binWrite _ c _ | .sweepStep c | .initStep c => c.withdrawn
  | .refresh | .poisonFill _ => []

/-- The withdrawn entries of the state (R116). -/
def State.withdrawn (s : State) : List Entry := s.array.op.elim [] ArrayOp.withdrawn

/-- Slots in use, withdrawn entries included (R109). -/
def State.occupancy (s : State) : Nat := s.entries.length + s.withdrawn.length

/-- The change made to every withdrawn entry of an operation. -/
def ArrayOp.mapWithdrawn (f : Entry → Entry) : ArrayOp → ArrayOp
  | .commit c => .commit { c with withdrawn := c.withdrawn.map f }
  | .binRead t c => .binRead t { c with withdrawn := c.withdrawn.map f }
  | .binWrite t c v => .binWrite t { c with withdrawn := c.withdrawn.map f } v
  | .sweepStep c => .sweepStep { c with withdrawn := c.withdrawn.map f }
  | .initStep c => .initStep { c with withdrawn := c.withdrawn.map f }
  | .refresh => .refresh
  | .poisonFill row => .poisonFill row

/-- The change made to every entry present, in the list or withdrawn (R121). -/
def State.mapPresent (s : State) (f : Entry → Entry) : State :=
  { s with
    entries := s.entries.map f
    array := { s.array with op := s.array.op.map (ArrayOp.mapWithdrawn f) } }

/-- Every OPEN entry of the list that satisfies `p` is sealed (R113). -/
def State.sealWhere (s : State) (p : Entry → Bool) : State :=
  { s with entries := s.entries.map fun e => if p e then { e with isSealed := true } else e }

/-! ### The registration of a marker (R122) -/

/-- The entry is in the wait set of a marker slot (R121). -/
def Waits.hasMark (w : Waits) : MarkerSlot → Bool
  | .slot0 => w.mark0
  | .slot1 => w.mark1

/-- The entry joins the wait set of a marker slot (R122). -/
def Waits.addMark (w : Waits) : MarkerSlot → Waits
  | .slot0 => { w with mark0 := true }
  | .slot1 => { w with mark1 := true }

/-- The slot in which a marker registers, none when both are busy (R122). -/
def Markers.pick (m : Markers) : Option MarkerSlot :=
  match m.slot0, m.slot1 with
  | none, none => some m.freedFirst
  | none, some _ => some .slot0
  | some _, none => some .slot1
  | some _, some _ => none

/-- A marker occupies a slot; the other slot's marker, if there is one, is the earlier (R122). -/
def Markers.occupy (m : Markers) (slot : MarkerSlot) (value : Half) : Markers :=
  match slot with
  | .slot0 => { m with slot0 := some value, older := if m.slot1.isSome then .slot1 else .slot0 }
  | .slot1 => { m with slot1 := some value, older := if m.slot0.isSome then .slot0 else .slot1 }

/-- The registration of a marker (R122): the OPEN entries with source LANE are sealed, every entry with source LANE, in the list
or withdrawn, joins the wait set, the slot is occupied, and the MARK is handled. -/
def State.registerMarker (s : State) (slot : MarkerSlot) (value : Half) : State :=
  let s := s.sealWhere Entry.fromLane
  let s := s.mapPresent fun e => if e.fromLane then { e with waits := e.waits.addMark slot } else e
  State.laneHandled { s with markers := s.markers.occupy slot value }

/-- A MARK at the head registers if a slot is free, and otherwise stays (R122). -/
def State.markRecord (s : State) : State :=
  match s.lane.head, s.markers.pick with
  | some (_, r), some slot => if r.type = .mark then s.registerMarker slot r.bin else s
  | _, _ => s

/-- The head record is a MARK and a slot is free (R122). -/
def State.markDue (s : State) : Bool :=
  match s.lane.head with
  | some (_, r) => r.type = .mark && s.markers.pick.isSome
  | none => false

/-- The head records that are taken at once, a PAD or a reserved TYPE (R57) and a MARK with a slot free (R122), are taken,
one after another, until another head stands or `n` runs out. -/
def State.headRecords (s : State) : Nat → State
  | 0 => s
  | n + 1 =>
    if s.lane.ownHead || s.markDue then s.padRecord.reservedRecord.markRecord.headRecords n else s

/-- Every head record that is taken at once is taken (R57, R122). -/
def State.takeHeads (s : State) : State := s.headRecords s.lane.records

/-! ### Sweeps and pins (R118, R129) -/

/-- A sweep that is active: RUNNING, STALLED or CLOSING (R129). -/
def SweepState.isActive : SweepState → Bool
  | .running | .stalled | .closing => true
  | .queued | .posting _ => false

/-- The active consistent sweep of a region, if there is one (R118, R129). -/
def State.consistentSweep (s : State) (r : RegionIx) : Option Sweep :=
  match s.sweeps with
  | [] => none
  | w :: _ => if w.state.isActive && w.isConsistent && w.region = r then some w else none

/-- The entry is pinned (R118). -/
def State.pinned (s : State) (e : Entry) : Bool :=
  match s.consistentSweep e.region with
  | none => false
  | some w => e.post && w.first ≤ e.bin && e.bin ≤ w.last && w.cursor ≤ e.bin.toNat

/-- The entry is eligible (R115). -/
def State.eligible (s : State) (e : Entry) : Bool :=
  !s.pinned e
    && (e.isSealed || s.mergeControl.lingerLimit.toNat ≤ e.age
        || s.mergeControl.watermark.toNat < s.occupancy)

/-- The entry is of the bin. -/
def Entry.isOf (e : Entry) (r : RegionIx) (b : BinIx) : Bool := e.region = r && e.bin = b

/-- The entry is the OPEN entry of the bin (R109). -/
def Entry.isOpenOf (e : Entry) (r : RegionIx) (b : BinIx) : Bool := e.isOf r b && !e.isSealed

/-! ### Readout records (R136, R138, R139) -/

/-- A readout record enters the Readout FIFO with the next sequence number (R138, R139). -/
def State.placeRecord (s : State) (r : ReadoutRecord) : State :=
  { s with readout := s.readout ++ [{ r with seq := s.readoutSeq }], readoutSeq := s.readoutSeq + 1 }

/-- The terminal record of a cancelled sweep (R136). -/
def terminalRecordOf (w : Sweep) : ReadoutRecord :=
  { seq := 0#8, tag := w.tag, poisoned := false, last := true, truncated := true, wide := false,
    bin := BitVec.ofNat 16 w.cursor, value := 0#64 }

/-- A step of the head sweep is in progress (R136). -/
def State.stepInProgress (s : State) : Bool :=
  match s.array.op with
  | some (.sweepStep _) => true
  | _ => false

/-! ### Completion records (R44) -/

/-- The completion of a queued command without data (R44). -/
def plainCompletion (ticket : Ticket) (result : Result) : Completion :=
  { source := .host, poisoned := false, ticket, result, data := [] }

/-- The completion of a lane marker (R123). -/
def markerCompletion (value : Half) : Completion :=
  { source := .lane, poisoned := false, ticket := 0#4, result := .ok, data := [value.zeroExtend 32] }

/-- The completion of a READ_BIN that read a counter (R44, R119). -/
def readCompletion (ticket : Ticket) (f : Format) (poisoned : Bool) (bits : BitVec 64) : Completion :=
  { source := .host, poisoned, ticket, result := .ok,
    data := if f.wide then [highWord bits, lowWord bits] else [lowWord bits] }

end Sys2Proof.Machine
end

