-- ==== Sys2Proof/Machine/Clock.lean ====
section
/-! DEFINITION. The timebase tick and the steps that fall at its moment (R2), the end of initialisation, the start of a
sweep and the end of a cancelled one, and the frame of every step. A tick marks the steps it causes
in `due`; each has a row of its own. A step that is still outstanding when a later event arrives has already happened
by then: `settle` takes it first, and ends the moment to which it belongs. -/

namespace Sys2Proof.Machine

/-- What a step answers. -/
abbrev Out := Host.Outcome State Fault Refusal

/-! ### The steps of a tick -/

/-- LANE_STALL: the stall report of R74, when one is outstanding. -/
def State.stallReport (s : State) : State :=
  match s.due.stall with
  | none => s
  | some cause =>
    let e :=
      match cause with
      | .update r b => s.event .laneStall .lane (some (r, b)) 1#16
      | .mark => s.event .laneStall .lane none 2#16
    (({ s with due := { s.due with stall := none } }).log e).raise .laneStall

/-- LINGER_TICK: every entry of the list ages by one, staying at 15, and the divider returns to 0 (R114). -/
def State.lingerTick (s : State) : State :=
  if s.due.linger then
    { s with
      due := { s.due with linger := false }
      lingerDivider := 0
      entries := s.entries.map fun e => { e with age := Nat.min (e.age + 1) Config.maxAge } }
  else s

/-- REFRESH_DUE: the divider returns to 0 and the debt rises by one, or, at 6, an overrun is reported
(R146, R147). -/
def State.refreshDue (s : State) : State :=
  if s.due.refresh then
    let s := { s with due := { s.due with refresh := false }, refreshTimer := { s.refreshTimer with divider := 0 } }
    if s.refreshTimer.debt < Config.maxDebt then
      { s with refreshTimer := { s.refreshTimer with debt := s.refreshTimer.debt + 1 } }
    else ((s.count .refreshOverruns).log (s.event .refreshOverrun .array none 0#16)).raise .refresh
  else s

/-- SEEK_RETRAIN_REPEAT: a further RETRAIN (R60). -/
def State.seekRepeat (s : State) : State :=
  if s.due.seekRepeat then
    { s with due := { s.due with seekRepeat := false }, lane := { s.lane.send .retrain with seekTimer := 0 } }
  else s

/-- TRAIN_TIMEOUT: the training is abandoned and the lane returns to SEEK (R61). -/
def State.trainTimeout (s : State) : State :=
  if s.due.trainTimeout then
    { s with due := { s.due with trainTimeout := false }, lane := s.lane.enterSeek }
  else s

/-- END_OF_INITIALISATION: RUN, then INITIALIZED, then POWER (R165). -/
def State.endOfInitialisation (s : State) : State :=
  match s.power.initEnd with
  | none => s
  | some filled =>
    let s := { s with power := { s.power with state := .run, initEnd := none } }
    (s.log (s.event .initialized .power none (if filled then 1#16 else 2#16))).raise .power

/-! ### The start of a sweep -/

/-- The head sweep has just become the head and has not started (R130). -/
def State.startDue (s : State) : Bool :=
  match s.sweeps with
  | [] => false
  | w :: _ => w.state = .queued

/-- SWEEP_START: RUNNING, or STALLED with the Readout FIFO full (R131); a consistent sweep seals the OPEN entries
of its region and clears POST in all its entries (R118, R130). -/
def State.sweepStart (s : State) : State :=
  match s.sweeps with
  | [] => s
  | w :: rest =>
    if w.state = .queued then
      let started := { w with state := if s.readout.length < Config.readoutSlots then .running else .stalled }
      { s with
        sweeps := started :: rest
        entries :=
          if w.isConsistent then
            s.entries.map fun e => if e.region = w.region then { e with isSealed := true, post := false } else e
          else s.entries }
    else s

/-! ### The end of a cancelled sweep -/

/-- The head sweep is CLOSING, no step of it is in progress, and the Readout FIFO has a free slot (R136). -/
def State.terminalDue (s : State) : Bool :=
  match s.sweeps with
  | [] => false
  | w :: _ => w.state = .closing && !s.stepInProgress && s.readout.length < Config.readoutSlots

/-- TERMINAL_RECORD: the terminal record enters the Readout FIFO, and the sweep is POSTING with ABORTED (R136). -/
def State.terminalRecord (s : State) : State :=
  match s.sweeps with
  | [] => s
  | w :: rest =>
    if s.terminalDue then
      { s.placeRecord (terminalRecordOf w) with sweeps := { w with state := .posting .aborted } :: rest }
    else s

/-! ### The frame of a step -/

/-- The steps that fall at the moment of an earlier event and are still outstanding (R2, R57, R122, R130, R136, R165);
then that moment ends. The events that they log enter with those of the event itself, in ascending CODE (R158). -/
def State.settle (s : State) : State :=
  s.takeHeads.endOfInitialisation.stallReport.lingerTick.refreshDue.seekRepeat.trainTimeout.sweepStart.terminalRecord
    |>.endMoment

/-- Nothing is outstanding, and the moment of the last event has ended. -/
def State.settled (s : State) : Bool :=
  s.due = .nothing && s.power.initEnd.isNone && !s.startDue && !s.terminalDue && !s.lane.ownHead && !s.markDue
    && s.moment = 0

/-- Every step but the resets and the outstanding steps themselves: while a reset is in force no event occurs
(R165); otherwise the outstanding steps are taken first, and a new moment begins. -/
def takeStep (s : State) (f : State → Out) : Out := if s.power.held then .next s else f s.settle

/-- An outstanding step taken by its own row, still at the moment of the event that caused it (R165: none while a reset
is in force). -/
def takeOutstanding (s : State) (f : State → State) : Out := .next (if s.power.held then s else f s)

/-! ### The tick -/

/-- The lane's head record cannot proceed: it is parked, or it is a MARK with both slots busy (R74). -/
def State.stallCause (s : State) : Option StallCause :=
  match s.lane.head with
  | none => none
  | some (_, r) =>
    match r.type with
    | .update => if s.lane.parked then some (.update r.region r.bin) else none
    | .mark => if s.markers.slot0.isSome && s.markers.slot1.isSome then some .mark else none
    | .pad | .reserved => none

/-- The stall monitor at a tick (R74). DESIGN CHOICE (log entry 20): R74 does not say whether ticks are counted while a
HOLD_LIMIT of 0 disables the monitor; here the count goes on, and a limit written later that the count has already
reached reports at the next tick. -/
def State.stallTick (s : State) : State :=
  match s.stallCause with
  | none => { s with lane := s.lane.endStall }
  | some cause =>
    let n := s.lane.stallCount + 1
    let limit := s.laneControl.holdLimit.toNat
    if limit ≠ 0 ∧ limit ≤ n ∧ s.lane.stallReported = false then
      { s with
        lane := { s.lane with stallCount := n, stallReported := true }
        due := { s.due with stall := some cause } }
    else { s with lane := { s.lane with stallCount := n } }

/-- The linger divider at a tick (R114). -/
def State.lingerCount (s : State) : State :=
  { s with
    lingerDivider := s.lingerDivider + 1
    due := { s.due with
      linger := s.due.linger || s.mergeControl.lingerPeriod.toNat ≤ s.lingerDivider + 1 } }

/-- The refresh divider at a tick (R146). -/
def State.refreshCount (s : State) : State :=
  { s with
    refreshTimer := { s.refreshTimer with divider := s.refreshTimer.divider + 1 }
    due := { s.due with
      refresh := s.due.refresh || s.refreshTimer.interval.toNat ≤ s.refreshTimer.divider + 1 } }

/-- The lane's timers at a tick: RETRAIN repeat in SEEK (R60), abandonment in TRAIN (R61). -/
def State.laneCount (s : State) : State :=
  match s.lane.state with
  | .seek =>
    { s with
      lane := { s.lane with seekTimer := s.lane.seekTimer + 1 }
      due := { s.due with seekRepeat := s.due.seekRepeat || Config.laneTimeout ≤ s.lane.seekTimer + 1 } }
  | .train =>
    { s with
      lane := { s.lane with trainTimer := s.lane.trainTimer + 1 }
      due := { s.due with trainTimeout := s.due.trainTimeout || Config.laneTimeout ≤ s.lane.trainTimer + 1 } }
  | .off | .locked | .fault => s

/-- Initialisation without a fill ends at the first tick after the release (R165). -/
def State.initCount (s : State) : State :=
  if s.power.state = .init ∧ s.power.fillObligation = false ∧ s.power.fillRow = none then
    { s with power := { s.power with initEnd := some false } }
  else s

/-- TIMEBASE_TICK: the count advances and wraps, TB_DIV applies from the next tick, and every timer counts
(R2). No tick occurs in RETAIN. DESIGN CHOICE (log entry 22): R2 and R160 do not say whether an event logged at the
moment of a tick carries the count before or after that tick's advance; here the count advances first. -/
def State.tick (s : State) : State :=
  if s.power.state = .retain then s
  else
    ({ s with
        timebase := { s.timebase with count := s.timebase.count + 1, tickDivider := s.timebase.tbDiv } }
      ).stallTick.lingerCount.refreshCount.laneCount.initCount

/-- TIMEBASE_TICK (R2). -/
def execTimebaseTick (s : State) : Out := takeStep s fun s => .next s.tick

/-- LINGER_TICK (R114). -/
def execLingerTick (s : State) : Out := takeOutstanding s State.lingerTick

/-- REFRESH_DUE (R146, R147). -/
def execRefreshDue (s : State) : Out := takeOutstanding s State.refreshDue

/-- SEEK_RETRAIN_REPEAT (R60). -/
def execSeekRetrainRepeat (s : State) : Out := takeOutstanding s State.seekRepeat

/-- TRAIN_TIMEOUT (R61). -/
def execTrainTimeout (s : State) : Out := takeOutstanding s State.trainTimeout

/-- LANE_STALL (R74). -/
def execLaneStall (s : State) : Out := takeOutstanding s State.stallReport

end Sys2Proof.Machine
end

