-- ==== Sys2Proof/Machine/Merge.lean ====
section
/-! DEFINITION. The acceptance point (R88 to R90), the placement of admitted updates (R110), parking and re-offers
(R111), the round robin of the two sources (R112), and the records that a rejection lets pass within the same moment
(R88, R90). -/

namespace Sys2Proof.Machine

/-- The other source (R112). -/
def Source.other : Source → Source
  | .lane => .host
  | .host => .lane

/-- The head record of a source when it is one that goes to the acceptance point (R24, R57). -/
def State.headRecord (s : State) : Source → Option HostRecord
  | .lane =>
    match s.lane.head with
    | none => none
    | some (_, r) => if r.type = .update then some (hostRecordOf r) else none
  | .host => s.hostFifo.head?

/-- The source's head record is parked (R111). -/
def State.isParked (s : State) : Source → Bool
  | .lane => s.lane.parked
  | .host => s.hostParked

/-- The source's head record enters its park slot (R111). -/
def State.park (s : State) : Source → State
  | .lane => { s with lane := { s.lane with parked := true } }
  | .host => { s with hostParked := true }

/-- The source's head record has reached the acceptance point (R24, R57, R88). -/
def State.depart (s : State) : Source → State
  | .lane => s.laneHandled
  | .host => s.hostDeparted

/-- The reason for which a record is rejected, if it is (R89): 1 NOT_LIVE, 2 SOURCE, 3 BIN_RANGE. -/
def rejectReason (reg : Region) (src : Source) (bin : BinIx) : Option Byte :=
  if reg.state ≠ .live then some 1#8
  else if (match src with | .lane => reg.desc.laneOk | .host => reg.desc.hostOk) = false then some 2#8
  else if reg.desc.binsMinus1 < bin then some 3#8
  else none

/-- SOURCE of an UPDATE_REJECT event (R90, R161). -/
def rejectSource : Source → EventSource
  | .lane => .lane
  | .host => .host

/-- A rejection: REJECT_COUNT rises, and REJECT_SEEN going from clear to set logs UPDATE_REJECT (R90). -/
def State.reject (s : State) (src : Source) (r : HostRecord) (reason : Byte) : State :=
  let reg := s.region r.region
  let s' := s.setRegion r.region { reg with rejectCount := satInc reg.rejectCount, rejectSeen := true }
  let detail : Half := (regionStateCode reg.state).zeroExtend 8 ++ reason
  let s' := s'.depart src
  if reg.rejectSeen then s'
  else s'.log (s.event .updateReject (rejectSource src) (some (r.region, r.bin)) detail)

/-- A merge of a scaled value into an OPEN entry; at 255 merges the entry is sealed (R105, R110). -/
def Entry.merge (e : Entry) (v : Int) (src : Source) : Entry :=
  { e with
    part := mergedPartial e.operator e.part v
    merges := e.merges + 1
    isSealed := e.merges + 1 = Config.mergeLimit
    fromLane := e.fromLane || src = .lane
    fromHost := e.fromHost || src = .host }

/-- The entry that an update opens (R108, R110). -/
def State.newEntry (s : State) (src : Source) (r : HostRecord) (v : Int) : Entry :=
  let op := (s.region r.region).desc.operator
  { region := r.region
    bin := r.bin
    operator := op
    part := v
    merges := 1
    isSealed := op = .decayAdd || s.power.state = .quiescing
    age := 0
    fromLane := src = .lane
    fromHost := src = .host
    post := (s.consistentSweep r.region).isSome
    waits := { fence := false, mark0 := false, mark1 := false } }

/-- The update needs a new entry: it opens one at the tail when a slot is free, and is parked otherwise
(R110, cases 3 and 4). -/
def State.openEntry (s : State) (src : Source) (r : HostRecord) (v : Int) : State :=
  if s.occupancy < Config.mergeSlots then
    ({ s with entries := s.entries ++ [s.newEntry src r v] }).depart src
  else s.park src

/-- Placement of an admitted update with scaled value `v` (R110). -/
def State.place (s : State) (src : Source) (r : HostRecord) (v : Int) : State :=
  match s.entries.find? (fun e => e.isOpenOf r.region r.bin) with
  | none => s.openEntry src r v
  | some e =>
    if mergeAllowed e.operator e.part v then
      ({ s with
          entries := s.entries.map fun (e : Entry) =>
            if e.isOpenOf r.region r.bin then e.merge v src else e }).depart src
    else (s.sealWhere fun e => e.isOpenOf r.region r.bin).openEntry src r v

/-- The head record of a source is offered to the acceptance point (R88 to R90, R110, R111); beside the state, whether
it was rejected. -/
def State.offer (s : State) (src : Source) : State × Bool :=
  match s.headRecord src with
  | none => (s, false)
  | some r =>
    let reg := s.region r.region
    match rejectReason reg src r.bin with
    | some reason => (s.reject src r reason, true)
    | none => (s.place src r (scaledValue reg.desc r.value), false)

/-- What a round of the Update Arbiter leaves: the state, and for each source whether its record was rejected. -/
structure Round where
  state : State
  laneRejected : Bool
  hostRejected : Bool
deriving DecidableEq, Repr

/-- One round of the Update Arbiter over the sources that are ready (R112): a single ready source is offered and
the pointer moves to the other; with both ready, the pointer's source is offered, the pointer moves to the
other source, and that source is offered next. -/
def State.round (s : State) (laneReady hostReady : Bool) : Round :=
  if laneReady && hostReady then
    match s.turn with
    | .lane =>
      let a := ({ s with turn := .host }).offer .lane
      let b := a.1.offer .host
      { state := b.1, laneRejected := a.2, hostRejected := b.2 }
    | .host =>
      let a := ({ s with turn := .lane }).offer .host
      let b := a.1.offer .lane
      { state := b.1, laneRejected := b.2, hostRejected := a.2 }
  else if laneReady then
    let a := ({ s with turn := .host }).offer .lane
    { state := a.1, laneRejected := a.2, hostRejected := false }
  else if hostReady then
    let a := ({ s with turn := .lane }).offer .host
    { state := a.1, laneRejected := false, hostRejected := a.2 }
  else { state := s, laneRejected := false, hostRejected := false }

/-- A source is ready: it has a head record to offer that is not in its park slot (R112). -/
def State.ready (s : State) (src : Source) : Bool := (s.headRecord src).isSome && !s.isParked src

/-- Rounds within one moment: after a round, a source whose record was rejected has its next record offered at once,
in a further round (R88, R90); what the lane handles itself in between is handled at once too (R57). `n` bounds the
rounds. -/
def State.rounds (s : State) (laneReady hostReady : Bool) : Nat → State
  | 0 => s
  | n + 1 =>
    let r := s.round laneReady hostReady
    let t := if r.laneRejected then r.state.handleOwn else r.state
    if r.laneRejected || r.hostRejected then
      t.rounds (r.laneRejected && t.ready .lane) (r.hostRejected && t.ready .host) n
    else t

/-- All that passes the acceptance point within one moment that begins with the offers of the given sources (R88, R90,
R112): every round after the first takes the place of a record that was rejected. -/
def State.offers (s : State) (laneReady hostReady : Bool) : State :=
  s.rounds laneReady hostReady (s.lane.records + s.hostFifo.length + 1)

/-- A departure as a moment of re-offer (R111, R112): with a record parked, every source with an UPDATE at its head is
ready, parked or not, and the round robin orders the two; with none parked nothing is offered again. -/
def State.reoffer (s : State) : State :=
  if s.lane.parked || s.hostParked then s.offers (s.headRecord .lane).isSome (s.headRecord .host).isSome else s

/-- What passes at an action moment before the region command acts (R80, R88): with a record parked, the sources whose head
is an UPDATE that is not parked, against the Region Table and the Merge Buffer as the command finds them. -/
def State.passUnparked (s : State) : State :=
  if s.lane.parked || s.hostParked then s.offers (s.ready .lane) (s.ready .host) else s

/-- An action moment as a moment of re-offer: the parked records, and no other, are offered after the command has acted
(R80, R111, R112). -/
def State.reofferParked (s : State) : State := s.offers s.lane.parked s.hostParked

end Sys2Proof.Machine
end

