-- ==== Sys2Proof/Machine/Regions.lean ====
section
/-! DEFINITION. The Region Controller: the checks and effects of DEFINE, INIT, ADOPT and RETIRE at their action
moment (R80 to R86). -/

namespace Sys2Proof.Machine

/-- The end of a region's words: BASE plus its span (R78). -/
def Descriptor.endWord (d : Descriptor) : Nat := d.base.toNat + d.span

/-- Two extents share a word (R82). -/
def Descriptor.overlaps (d e : Descriptor) : Bool :=
  d.base.toNat < e.endWord && e.base.toNat < d.endWord

/-- The descriptor that a DEFINE would store, and the end of its words counted from the 3-byte BASE; none if a field
check of R81 fails. -/
def RawDescriptor.checked (raw : RawDescriptor) : Option (Descriptor × Nat) :=
  match formatOfByte raw.format, operatorOfByte raw.operator, roundingOfByte raw.rounding with
  | some f, some o, some r =>
    if 15 < raw.decayShift.toNat || 7 < raw.inputShift.toNat || raw.base.toNat % 8 != 0
        || (o = .decayAdd && raw.decayShift = 0#8) then none
    else
      let d : Descriptor :=
        { base := raw.base.extractLsb' 0 21
          binsMinus1 := raw.binsMinus1
          format := f
          operator := o
          decayShift := if o = .decayAdd then raw.decayShift.extractLsb' 0 4 else 0#4
          rounding := r
          inputShift := raw.inputShift.extractLsb' 0 3
          laneOk := raw.permits.getLsbD 0
          hostOk := raw.permits.getLsbD 1 }
      some (d, raw.base.toNat + d.span)
  | _, _, _ => none

/-- Another region that is not EMPTY shares a word with the descriptor (R81, R82). -/
def State.overlapsAnother (s : State) (r : RegionIx) (d : Descriptor) : Bool :=
  (List.range 16).any fun n =>
    let i : RegionIx := BitVec.ofNat 4 n
    i ≠ r && (s.region i).state ≠ .empty && d.overlaps (s.region i).desc

/-- The checks of DEFINE in order: the descriptor to store, or the RESULT of the first check that fails (R81). -/
def State.defineCheck (s : State) (r : RegionIx) (raw : RawDescriptor) : Except Result Descriptor :=
  if (s.region r).state = .initializing || (s.region r).state = .live then .error .state
  else
    match raw.checked with
    | none => .error .descriptor
    | some (d, endWord) =>
      if Config.arrayWords < endWord then .error .range
      else if s.overlapsAnother r d then .error .overlap
      else .ok d

/-- The Sweep Queue holds a sweep of the region (R86). -/
def State.hasSweepOf (s : State) (r : RegionIx) : Bool := s.sweeps.any fun w => w.region = r

/-- The region with another state. -/
def State.setRegionState (s : State) (r : RegionIx) (st : RegionState) : State :=
  s.setRegion r { s.region r with state := st }

/-- The Region Controller has a completion ready (R80). -/
def State.regionResult (s : State) (ticket : Ticket) (result : Result) : State :=
  { s with regionController := .posting (plainCompletion ticket result) false }

/-- The action of DEFINE (R81). -/
def State.actDefine (s : State) (t : Ticket) (r : RegionIx) (raw : RawDescriptor) : State :=
  match s.defineCheck r raw with
  | .error e => s.regionResult t e
  | .ok d => (s.setRegion r { s.region r with state := .defined, desc := d }).regionResult t .ok

/-- The action of INIT: INITIALIZING, and the fill requests bin 0 (R83). -/
def State.actInit (s : State) (t : Ticket) (r : RegionIx) : State :=
  if (s.region r).state = .defined then
    { s.setRegionState r .initializing with regionController := .filling t r 0 }
  else s.regionResult t .state

/-- The action of ADOPT (R85). -/
def State.actAdopt (s : State) (t : Ticket) (r : RegionIx) : State :=
  if (s.region r).state = .defined then (s.setRegionState r .live).regionResult t .ok
  else s.regionResult t .state

/-- The action of RETIRE: the region's entries are removed unapplied and the region is EMPTY (R86). -/
def State.actRetire (s : State) (t : Ticket) (r : RegionIx) : State :=
  if (s.region r).state = .empty || (s.region r).state = .initializing then s.regionResult t .state
  else if s.hasSweepOf r then s.regionResult t .busy
  else
    ({ s.setRegionState r .empty with
        entries := s.entries.filter fun e => e.region ≠ r }).regionResult t .ok

/-- The action of a region command (R80). -/
def State.act (s : State) : RegionCommand → State
  | .define t r raw => s.actDefine t r raw
  | .init t r => s.actInit t r
  | .adopt t r => s.actAdopt t r
  | .retire t r => s.actRetire t r

/-- The updates that reach the acceptance point at the action moment of the command that the Region Controller holds, if it
holds one, pass first (R80, R88). -/
def State.beforeAction (s : State) : State :=
  match s.regionController with
  | .awaiting _ => s.passUnparked
  | .idle | .filling _ _ _ | .posting _ _ => s

/-- The action of the command that the Region Controller holds, if it holds one, and then the re-offer of the parked
records (R80, R111). -/
def State.actionMoment (s : State) : State :=
  match s.regionController with
  | .awaiting c => (s.act c).reofferParked
  | .idle | .filling _ _ _ | .posting _ _ => s

/-- A region command is handed over: it acts at once if no array operation is in progress, after the updates of that
moment, and otherwise waits for the completion of that operation (R80). -/
def State.takeRegionCommand (s : State) (c : RegionCommand) : State :=
  let s : State := { s with regionController := .awaiting c }
  if s.array.op.isSome then s else s.beforeAction.actionMoment

end Sys2Proof.Machine
end

