-- ==== Sys2Proof/Machine/ArrayUnit.lean ====
section
/-! DEFINITION. The array: arbitration (R145), what an operation takes at its grant (R144), what its completion writes and
reports (R143, R148 to R152), and the seven kinds of operation with their grants and completions. -/

namespace Sys2Proof.Machine

/-! ### Arbitration (R145) -/

/-- What the Array Arbiter grants. -/
inductive Grant where
  | refresh
  | member (m : Member)
  | fill
deriving DecidableEq, Repr

/-- The member that follows in the rotation (R145). -/
def Member.following : Member → Member
  | .binAccess => .sweep
  | .sweep => .commit
  | .commit => .init
  | .init => .binAccess

/-- The four members in cyclic order from one of them (R145). -/
def Member.rotation (m : Member) : List Member :=
  [m, m.following, m.following.following, m.following.following.following]

/-- The head sweep requests a step: RUNNING, cursor not beyond LAST, a free Readout FIFO slot (R131). -/
def State.sweepRequests (s : State) : Bool :=
  match s.sweeps with
  | [] => false
  | w :: _ => w.state = .running && w.cursor ≤ w.last.toNat && s.readout.length < Config.readoutSlots

/-- A member requests the array (R145). -/
def State.requests (s : State) : Member → Bool
  | .binAccess =>
    match s.binUnit with
    | .read _ _ _ | .write _ _ _ _ => true
    | .idle | .posting _ => false
  | .sweep => s.sweepRequests
  | .commit => s.entries.any s.eligible
  | .init =>
    match s.regionController with
    | .filling _ _ _ => true
    | .idle | .awaiting _ | .posting _ _ => false

/-- The next grant, if no operation is in progress and something requests: forced refresh, the rotation, the fill,
opportunistic refresh (R145). -/
def State.nextGrant (s : State) : Option Grant :=
  if s.array.op.isSome then none
  else if Config.maxDebt ≤ s.refreshTimer.debt then some .refresh
  else
    match s.array.pointer.rotation.find? s.requests with
    | some m => some (.member m)
    | none =>
      if s.power.fillRow.isSome then some .fill
      else if 0 < s.refreshTimer.debt then some .refresh
      else none

/-- An operation begins: it has taken the armed injection, and a mode armed from now on is a new one (R152). -/
def State.startOp (s : State) (op : ArrayOp) : State :=
  { s with array := { s.array with op := some op, eccRearmed := false } }

/-- The operation in progress is over, with its withdrawn entries (R116, R144). -/
def State.endOp (s : State) : State := { s with array := { s.array with op := none } }

/-- A grant to a member moves the pointer to the member that follows it (R145); where the arbiter does not choose the
member, its operation is not granted. `f` is given the state before the grant and the state with the pointer moved. -/
def grantTo (m : Member) (f : State → State → Out) (s : State) : Out :=
  takeStep s fun s =>
    if s.nextGrant = some (.member m) then
      f s { s with array := { s.array with pointer := m.following } }
    else .next s

/-! ### What an operation takes at its grant (R144) -/

/-- The counter of a bin, read with its descriptor, the given entries and the armed injection (R144, R152). -/
def State.capture (s : State) (r : RegionIx) (b : BinIx) (withdrawn forwarded : List Entry) : CounterOp :=
  let d := (s.region r).desc
  let a := counterAddress d b
  { region := r, bin := b, desc := d
    low := s.array.words.read a
    high := s.array.words.read (a + 1)
    withdrawn, forwarded, inject := s.array.ecc }

/-- The entries that satisfy `p` are withdrawn from the list (R116). -/
def State.withdraw (s : State) (p : Entry → Bool) : State :=
  { s with entries := s.entries.filter fun e => !p e }

/-- The operation on a counter begins, unless the counter would lie beyond the array. -/
def beginOn (c : CounterOp) (op : ArrayOp) (s : State) : Out :=
  if counterLastWord c.desc c.bin < Config.arrayWords then .next (s.startOp op)
  else .fault (.noSuchWord (counterLastWord c.desc c.bin))

/-! ### What a completion does to the counter -/

/-- The counter's low word (or only word) reads CORRECTED; and so its high word (R149). -/
def CounterOp.correctedLow (c : CounterOp) : Bool := c.low.isCorrected

/-- The counter's high word reads CORRECTED (R149). -/
def CounterOp.correctedHigh (c : CounterOp) : Bool := c.desc.format.wide && c.high.isCorrected

/-- The counter's low word (or only word) reads UNCORRECTABLE (R150). -/
def CounterOp.uncorrectableLow (c : CounterOp) : Bool := c.low.isUncorrectable

/-- The counter's high word reads UNCORRECTABLE (R150). -/
def CounterOp.uncorrectableHigh (c : CounterOp) : Bool := c.desc.format.wide && c.high.isUncorrectable

/-- Some word was corrected (R149). -/
def CounterOp.corrected (c : CounterOp) : Bool := c.correctedLow || c.correctedHigh

/-- Some word was uncorrectable (R150). -/
def CounterOp.uncorrectable (c : CounterOp) : Bool := c.uncorrectableLow || c.uncorrectableHigh

/-- The counter is poisoned (R148). -/
def CounterOp.poisoned (c : CounterOp) : Bool := c.low.isPoison || (c.desc.format.wide && c.high.isPoison)

/-- DETAIL of CORRECTED and UNCORRECTABLE: 1 low word, 2 high word, 3 both (R149, R150). -/
def wordsDetail (low high : Bool) : Half := (BitVec.ofBool high ++ BitVec.ofBool low).zeroExtend 16

/-- The stored value of the counter as read, after correction (R94, R148). -/
def CounterOp.stored (c : CounterOp) : Int := c.desc.format.decode (c.high.value ++ c.low.value)

/-- The applications of the withdrawn entries (R94). -/
def CounterOp.applied (c : CounterOp) : Applied := applyEntries c.desc c.stored c.withdrawn

/-- The value with the pinned entries forwarded on top (R119). -/
def CounterOp.forwardedValue (c : CounterOp) : Int := (applyEntries c.desc c.applied.value c.forwarded).value

/-- The reset value of the counter (R87). -/
def CounterOp.resetValue (c : CounterOp) : BitVec 64 := resetBits c.desc.operator c.desc.format

/-- Each word of the counter is accessed once (R143). -/
def State.accessCounter (s : State) (c : CounterOp) : State :=
  (counterWords c.desc c.bin).foldl State.access s

/-- Counter data is written: the low word takes the injection that the operation took at its grant, and MODE returns to
NONE unless a mode has been armed since (R152). -/
def State.storeCounter (s : State) (c : CounterOp) (bits : BitVec 64) : State :=
  let a := counterAddress c.desc c.bin
  let low := s.array.words.write a (injectedCell c.inject (lowWord bits))
  let words := if c.desc.format.wide then low.write (a + 1) (.clean (highWord bits)) else low
  let ecc := if c.inject ≠ .none ∧ s.array.eccRearmed = false then .none else s.array.ecc
  { s with array := { s.array with words, ecc } }

/-- The counter is marked: every word holds the poison marker (R150, R151). -/
def State.markCounter (s : State) (c : CounterOp) : State :=
  { s with
    array := { s.array with
      words := (counterWords c.desc c.bin).foldl (fun m a => m.write a .marker) s.array.words } }

/-- The reading operations (R148). -/
inductive ReadKind where
  | commit | binRead | snapshot | drain
deriving DecidableEq, Repr

/-- A reading operation marks a poisoned counter, every word of it; a DRAIN step alone does not (R149 to R151). R132 has
the Sweep Engine write nothing in SNAPSHOT mode, and leaves the treatment of poison to Chapter 8, where the marking stands
(log entry 21). -/
def State.markPoisoned (s : State) (c : CounterOp) (k : ReadKind) : State :=
  if c.poisoned && k ≠ .drain then s.markCounter c else s

/-- The counter data that a reading operation writes back: the reset value for a DRAIN step, nothing on a poisoned counter,
the result of a COMMIT, and for a BIN_READ or a SNAPSHOT step the result if an entry was withdrawn or a word corrected
(R117, R119, R132, R149). -/
def State.writeBack (s : State) (c : CounterOp) (k : ReadKind) : State :=
  if k = .drain then s.storeCounter c c.resetValue
  else if c.poisoned then s
  else if k = .commit || !c.withdrawn.isEmpty || c.corrected then
    s.storeCounter c (c.desc.format.encode c.applied.value)
  else s

/-- A COMMIT that reached a poisoned counter without finding it uncorrectable (R151). -/
def CounterOp.poisonHit (c : CounterOp) (k : ReadKind) : Bool :=
  k = .commit && c.poisoned && !c.uncorrectable

/-- The region's sticky flags after a reading operation (R91, R104, R150, R151). -/
def flagged (reg : Region) (c : CounterOp) (k : ReadKind) : Region :=
  { reg with
    satSeen := reg.satSeen || (!c.poisoned && c.applied.sat)
    wrapSeen := reg.wrapSeen || (!c.poisoned && c.applied.wrap)
    poisonSeen := reg.poisonSeen || c.uncorrectable || c.poisonHit k }

/-- SATURATED is reported: SAT_SEEN goes from clear to set (R91). -/
def reportsSaturated (reg : Region) (c : CounterOp) : Bool := !c.poisoned && c.applied.sat && !reg.satSeen

/-- POISON_HIT is reported: a COMMIT takes POISON_SEEN from clear to set (R91, R151). -/
def reportsPoisonHit (reg : Region) (c : CounterOp) (k : ReadKind) : Bool := c.poisonHit k && !reg.poisonSeen

/-- The events of a reading operation, in ascending CODE (R91, R149 to R151, R161). -/
def State.readEvents (s : State) (c : CounterOp) (k : ReadKind) : List Event :=
  let reg := s.region c.region
  let place := some (c.region, c.bin)
  (if reportsSaturated reg c then [s.event .saturated .engine place 0#16] else [])
    ++ (if reportsPoisonHit reg c k then [s.event .poisonHit .engine place 0#16] else [])
    ++ (if c.corrected then
          [s.event .corrected .array place (wordsDetail c.correctedLow c.correctedHigh)] else [])
    ++ (if c.uncorrectable then
          [s.event .uncorrectable .array place (wordsDetail c.uncorrectableLow c.uncorrectableHigh)] else [])

/-- A state change made only where a condition holds. -/
def State.onlyIf (s : State) (p : Bool) (f : State → State) : State := if p then f s else s

/-- The events, statistics and alert causes of a reading operation (R91, R149 to R151). -/
def State.readReports (s : State) (c : CounterOp) (k : ReadKind) : State :=
  let reg := s.region c.region
  let s := (s.readEvents c k).foldl State.log s
  ((((((s.onlyIf c.correctedLow fun s => s.count .ceCount)
    |>.onlyIf c.correctedHigh fun s => s.count .ceCount)
    |>.onlyIf c.uncorrectable fun s => s.count .ueCount)
    |>.onlyIf (reportsSaturated reg c) fun s => s.raise .saturation)
    |>.onlyIf (reportsPoisonHit reg c k || c.uncorrectable) fun s => s.raise .integrity)
    |>.onlyIf c.corrected fun s => s.raise .corrected)

/-- What a reading operation does to the array, the Event Log, the statistics, the alert causes and its region's flags
at its completion (R143, R148 to R152). -/
def State.readCounter (s : State) (c : CounterOp) (k : ReadKind) : State :=
  let s' := (((s.readReports c k).accessCounter c).markPoisoned c k).writeBack c k
  s'.setRegion c.region (flagged (s.region c.region) c k)

/-- The end of an operation, after its own effects: the withdrawn entries depart, which is a moment of re-offer; then a
waiting region command has its action moment. Either way the updates of the moment pass before the command acts (R80, R88,
R111, R116). -/
def State.finishOp (s : State) (departed : Bool) : State :=
  let s := s.endOp
  (if departed then s.reoffer else s.beforeAction).actionMoment

/-! ### COMMIT (R117) -/

/-- The oldest eligible entry and the list without it (R117). -/
def pickEligible (p : Entry → Bool) : List Entry → Option (Entry × List Entry)
  | [] => none
  | e :: rest => if p e then some (e, rest) else (pickEligible p rest).map fun q => (q.1, e :: q.2)

/-- COMMIT (R117): the oldest eligible entry is withdrawn. -/
def execCommit (s : State) : Out :=
  grantTo .commit (fun before s =>
    match pickEligible s.eligible s.entries with
    | none => .next before
    | some (e, rest) =>
      let c := s.capture e.region e.bin [e] []
      beginOn c (.commit c) { s with entries := rest }) s

/-- COMMIT_COMPLETION (R117). -/
def execCommitCompletion (s : State) : Out :=
  takeStep s fun s =>
    match s.array.op with
    | some (.commit c) =>
      .next ((s.readCounter c .commit).finishOp (!c.withdrawn.isEmpty))
    | _ => .next s

/-! ### BIN_READ and BIN_WRITE (R119, R120) -/

/-- The checks of a bin operation at its grant, in order (R119). -/
def State.binCheck (s : State) (r : RegionIx) (b : BinIx) (isWrite : Bool) : Option Result :=
  if (s.region r).state ≠ .live then some .state
  else if (s.region r).desc.binsMinus1 < b then some .binRange
  else if isWrite && (s.consistentSweep r).isSome then some .busy
  else none

/-- A bin operation that fails a check ends at its grant (R119). -/
def State.binFails (s : State) (t : Ticket) (e : Result) : State :=
  { s with binUnit := .posting (plainCompletion t e) }

/-- BIN_READ (R119): the bin's unpinned entries are withdrawn, the pinned ones stay and are forwarded. -/
def execBinRead (s : State) : Out :=
  grantTo .binAccess (fun before s =>
    match s.binUnit with
    | .read t r b =>
      match s.binCheck r b false with
      | some e => .next (s.binFails t e)
      | none =>
        let taken := fun e : Entry => e.isOf r b && !s.pinned e
        let c := s.capture r b (s.entries.filter taken) (s.entries.filter fun e => e.isOf r b && s.pinned e)
        beginOn c (.binRead t c) (s.withdraw taken)
    | _ => .next before) s

/-- BIN_READ_COMPLETION (R119). -/
def execBinReadCompletion (s : State) : Out :=
  takeStep s fun s =>
    match s.array.op with
    | some (.binRead t c) =>
      let bits := if c.poisoned then 0#64 else c.desc.format.encode c.forwardedValue
      let s' := { s.readCounter c .binRead with
        binUnit := .posting (readCompletion t c.desc.format c.poisoned bits) }
      .next (s'.finishOp (!c.withdrawn.isEmpty))
    | _ => .next s

/-- BIN_WRITE (R120): every entry of the bin is withdrawn. -/
def execBinWrite (s : State) : Out :=
  grantTo .binAccess (fun before s =>
    match s.binUnit with
    | .write t r b v =>
      match s.binCheck r b true with
      | some e => .next (s.binFails t e)
      | none =>
        let taken := fun e : Entry => e.isOf r b
        let c := s.capture r b (s.entries.filter taken) []
        beginOn c (.binWrite t c v) (s.withdraw taken)
    | _ => .next before) s

/-- BIN_WRITE_COMPLETION (R120): the counter is written without being read, the withdrawn entries are discarded. -/
def execBinWriteCompletion (s : State) : Out :=
  takeStep s fun s =>
    match s.array.op with
    | some (.binWrite t c v) =>
      let s' := { (s.accessCounter c).storeCounter c v with binUnit := .posting (plainCompletion t .ok) }
      .next (s'.finishOp (!c.withdrawn.isEmpty))
    | _ => .next s

/-! ### SWEEP_STEP (R132) -/

/-- SWEEP_STEP (R132): the unpinned entries of the cursor bin are withdrawn. -/
def execSweepStep (s : State) : Out :=
  grantTo .sweep (fun before s =>
    match s.sweeps with
    | [] => .next before
    | w :: _ =>
      let b : BinIx := BitVec.ofNat 16 w.cursor
      let taken := fun e : Entry => e.isOf w.region b && !s.pinned e
      let c := s.capture w.region b (s.entries.filter taken) []
      beginOn c (.sweepStep c) (s.withdraw taken)) s

/-- The record of a step (R132, R137). -/
def stepRecord (w : Sweep) (c : CounterOp) : ReadoutRecord :=
  { seq := 0#8, tag := w.tag, poisoned := c.poisoned, last := c.bin = w.last, truncated := false,
    wide := c.desc.format.wide, bin := c.bin,
    value := if c.poisoned then 0#64 else c.desc.format.encode c.applied.value }

/-- The head sweep after the completion of its step: the cursor moves on; after LAST it is POSTING with OK; RUNNING with
the Readout FIFO full it is STALLED (R131 to R133, R135). -/
def Sweep.stepped (w : Sweep) (c : CounterOp) (fifo : Nat) : Sweep :=
  { w with
    cursor := w.cursor + 1
    state :=
      if c.bin = w.last then .posting .ok
      else if w.state = .running ∧ Config.readoutSlots ≤ fifo then .stalled
      else w.state }

/-- SWEEP_STEP_COMPLETION (R132, R133). -/
def execSweepStepCompletion (s : State) : Out :=
  takeStep s fun s =>
    match s.array.op, s.sweeps with
    | some (.sweepStep c), w :: rest =>
      let k : ReadKind := if w.isDrain then .drain else .snapshot
      let placed := (s.readCounter c k).placeRecord (stepRecord w c)
      let s' := { placed with sweeps := w.stepped c placed.readout.length :: rest }
      .next (s'.finishOp (!c.withdrawn.isEmpty))
    | _, _ => .next s

/-- TERMINAL_RECORD (R136): at the moment at which the sweep is CLOSING with no step in progress and a slot free. -/
def execTerminalRecord (s : State) : Out := takeOutstanding s State.terminalRecord

/-- SWEEP_START (R130). -/
def execSweepStart (s : State) : Out := takeOutstanding s State.sweepStart

/-! ### INIT_STEP (R83, R84) -/

/-- INIT_STEP (R83). -/
def execInitStep (s : State) : Out :=
  grantTo .init (fun before s =>
    match s.regionController with
    | .filling _ r b =>
      let c := s.capture r (BitVec.ofNat 16 b) [] []
      beginOn c (.initStep c) s
    | _ => .next before) s

/-- The fill after a completed step: the next bin, or, after the last, LIVE with the INIT completion ready (R83, R84). -/
def State.filled (s : State) : State :=
  match s.regionController with
  | .filling t r b =>
    if b < (s.region r).desc.binsMinus1.toNat then { s with regionController := .filling t r (b + 1) }
    else
      { s.setRegionState r .live with regionController := .posting (plainCompletion t .ok) true }
  | .idle | .awaiting _ | .posting _ _ => s

/-- INIT_STEP_COMPLETION (R84). -/
def execInitStepCompletion (s : State) : Out :=
  takeStep s fun s =>
    match s.array.op with
    | some (.initStep c) =>
      .next ((((s.accessCounter c).storeCounter c c.resetValue).filled).finishOp false)
    | _ => .next s

/-! ### REFRESH (R146, R147) and POISON_FILL (R153) -/

/-- REFRESH (R145, R147). -/
def execRefresh (s : State) : Out :=
  takeStep s fun s => if s.nextGrant = some .refresh then .next (s.startOp .refresh) else .next s

/-- REFRESH_COMPLETION (R146, R147): every bank CLOSED, the debt falls by one. -/
def execRefreshCompletion (s : State) : Out :=
  takeStep s fun s =>
    match s.array.op with
    | some .refresh =>
      .next
        (State.finishOp
          { s with
            array := { s.array with banks := closedBanks }
            refreshTimer := { s.refreshTimer with debt := s.refreshTimer.debt - 1 } } false)
    | _ => .next s

/-- POISON_FILL (R153). -/
def execPoisonFill (s : State) : Out :=
  takeStep s fun s =>
    match s.power.fillRow with
    | some row => if s.nextGrant = some .fill then .next (s.startOp (.poisonFill row)) else .next s
    | none => .next s

/-- POISON_FILL_COMPLETION (R153, R165): the row's words hold the marker, every bank is CLOSED; the next row index is
requested, or the fill has ended and the fill obligation is cleared. -/
def execPoisonFillCompletion (s : State) : Out :=
  takeStep s fun s =>
    match s.array.op with
    | some (.poisonFill row) =>
      let s := { s with array := { s.array with words := s.array.words.poisonRow row, banks := closedBanks } }
      let s :=
        if row < Config.lastRow then { s with power := { s.power with fillRow := some (row + 1) } }
        else { s with power := { s.power with fillRow := none, fillObligation := false, initEnd := some true } }
      .next (s.finishOp false)
    | _ => .next s

end Sys2Proof.Machine
end

