-- ==== Sys2Proof/Machine/Commands.lean ====
section
/-! DEFINITION. Dispatch from the Command Queue (R35 to R39) and what each of the ten kinds does at its dispatch. -/

namespace Sys2Proof.Machine

/-- A barrier is in progress (R39). -/
def State.barrier (s : State) : Bool := s.fence.isSome || s.retain ≠ .none

/-- Every command dispatched so far has settled (R38): the Region Controller is idle, in a fill or holding the
completion of a finished fill, and no other unit holds a command or a result. -/
def State.allSettled (s : State) : Bool :=
  (match s.regionController with
    | .idle | .filling _ _ _ => true
    | .posting _ afterFill => afterFill
    | .awaiting _ => false)
    && s.binUnit = .idle && s.intake.isEmpty && !s.barrier

/-- The unit of a kind is ready to take it (R36). -/
def State.unitReady (s : State) : CommandKind → Bool
  | .define | .init | .adopt | .retire => s.regionController = .idle
  | .readBin | .writeBin => s.binUnit = .idle
  | .sweep | .cancelSweep => s.intake.isEmpty
  | .fence | .retain => true

/-- The kind is a barrier (R39). -/
def CommandKind.isBarrier : CommandKind → Bool
  | .fence | .retain => true
  | .define | .init | .adopt | .retire | .readBin | .writeBin | .sweep | .cancelSweep => false

/-- The head command, when it is of the kind and every dispatch condition of R35 holds. -/
def State.dispatchable (s : State) (kind : CommandKind) : Option QueuedCommand :=
  match s.commands with
  | [] => none
  | c :: _ =>
    if c.kind = kind && c.mark = 0 && s.unitReady kind && !s.barrier && (!kind.isBarrier || s.allSettled) then
      some c
    else none

/-- The state once the head command has left the Command Queue (R31). -/
def State.dequeued (s : State) : State := { s with commands := s.commands.tail }

/-- Dispatch of the head command of a kind: it leaves the queue and its unit takes it (R35). Where the conditions do
not hold, the command stays and nothing is dispatched (R37). -/
def dispatch (kind : CommandKind) (take : QueuedCommand → State → State) (s : State) : Out :=
  takeStep s fun s =>
    match s.dispatchable kind with
    | none => .next s
    | some c => .next (take c s.dequeued)

/-- DEFINE (R80, R81). -/
def execDefine (s : State) : Out :=
  dispatch .define
    (fun c s => s.takeRegionCommand (.define c.ticket (paramRegion c.params) (rawDescriptorOf c.params))) s

/-- INIT (R80, R83). -/
def execInit (s : State) : Out :=
  dispatch .init (fun c s => s.takeRegionCommand (.init c.ticket (paramRegion c.params))) s

/-- ADOPT (R80, R85). -/
def execAdopt (s : State) : Out :=
  dispatch .adopt (fun c s => s.takeRegionCommand (.adopt c.ticket (paramRegion c.params))) s

/-- RETIRE (R80, R86). -/
def execRetire (s : State) : Out :=
  dispatch .retire (fun c s => s.takeRegionCommand (.retire c.ticket (paramRegion c.params))) s

/-- READ_BIN (R119): the Bin Access Unit takes the read and requests a BIN_READ. -/
def execReadBin (s : State) : Out :=
  dispatch .readBin
    (fun c s => { s with binUnit := .read c.ticket (paramRegion c.params) (paramHalf c.params 1) }) s

/-- WRITE_BIN (R120): the Bin Access Unit takes the write and requests a BIN_WRITE. -/
def execWriteBin (s : State) : Out :=
  dispatch .writeBin
    (fun c s =>
      { s with
        binUnit := .write c.ticket (paramRegion c.params) (paramHalf c.params 1) (paramValue c.params) }) s

/-- The dispatch checks of a SWEEP in order (R128); none when all pass. -/
def State.sweepCheck (s : State) (w : Sweep) : Option Result :=
  if (s.region w.region).state ≠ .live then some .state
  else if w.last < w.first || (s.region w.region).desc.binsMinus1 < w.last then some .binRange
  else if Config.sweepSlots ≤ s.sweeps.length then some .full
  else none

/-- SWEEP (R128): the sweep joins the tail of the Sweep Queue, or its failing completion is ready in the intake. -/
def execSweep (s : State) : Out :=
  dispatch .sweep
    (fun c s =>
      let w := sweepOf c.ticket c.params
      match s.sweepCheck w with
      | some e => { s with intake := [plainCompletion c.ticket e] }
      | none => { s with sweeps := s.sweeps ++ [w] }) s

/-- A QUEUED sweep with the tag (R135). -/
def Sweep.queuedWith (w : Sweep) (t : Tag) : Bool := w.state = .queued && w.tag = t

/-- A head sweep that a matching CANCEL_SWEEP closes: RUNNING or STALLED becomes CLOSING (R135). -/
def Sweep.closeIf (w : Sweep) (t : Tag) : Sweep :=
  if w.tag = t && (w.state = .running || w.state = .stalled) then { w with state := .closing } else w

/-- CANCEL_SWEEP with a tag (R135): matching QUEUED sweeps leave with ABORTED, a matching head sweep in RUNNING or
STALLED enters CLOSING, and the command's own result follows in the intake. -/
def State.cancelSweep (s : State) (ticket : Ticket) (t : Tag) : State :=
  let removed := s.sweeps.filter fun w => w.queuedWith t
  let kept := s.sweeps.filter fun w => !w.queuedWith t
  let found := s.sweeps.any fun w => w.tag = t
  { s with
    sweeps := kept.map fun w => w.closeIf t
    intake :=
      removed.map (fun w => plainCompletion w.ticket .aborted)
        ++ [plainCompletion ticket (if found then .ok else .notFound)] }

/-- CANCEL_SWEEP (R135). -/
def execCancelSweep (s : State) : Out :=
  dispatch .cancelSweep
    (fun c s => s.cancelSweep c.ticket ((paramByte c.params 0).extractLsb' 0 4)) s

/-- The dispatch of a FENCE (R40): with the LANE flag every OPEN entry is sealed and every entry present is in the wait
set; without it, those whose SOURCES include HOST. -/
def State.startFence (s : State) (ticket : Ticket) (laneFlag : Bool) : State :=
  let s := s.sealWhere fun e => laneFlag || e.fromHost
  let s := s.mapPresent fun e =>
    if laneFlag || e.fromHost then { e with waits := { e.waits with fence := true } } else e
  { s with fence := some ticket }

/-- FENCE (R40). -/
def execFence (s : State) : Out :=
  dispatch .fence (fun c s => s.startFence c.ticket (paramByte c.params 0 = 1#8)) s

/-- A refusal condition of RETAIN holds (R42). -/
def State.retainRefused (s : State) : Bool :=
  !s.sweeps.isEmpty || s.regions.toList.any fun r => r.state = .initializing

/-- RETAIN (R42): refused, with REFUSED ready, or QUIESCING with every OPEN entry sealed (R166). -/
def execRetain (s : State) : Out :=
  dispatch .retain
    (fun c s =>
      if s.retainRefused then { s with retain := .refused c.ticket }
      else
        { s.sealWhere (fun _ => true) with
          retain := .quiescing c.ticket
          power := { s.power with state := .quiescing } }) s

end Sys2Proof.Machine
end

