-- ==== Sys2Proof/Machine/Crc.lean ====
section
/-! DEFINITION. The two check codes of the links: CRC-8 of the Host Port (R11) and CRC-16 of the lane (R54). -/

namespace Sys2Proof.Machine

/-- One shift of the CRC-8 register: x^8 + x^2 + x + 1 (R11). -/
def crc8Shift (r : Byte) : Byte :=
  if r.msb then (r <<< 1) ^^^ 0x07#8 else r <<< 1

/-- One byte into the CRC-8 register (R11). -/
def crc8Byte (r b : Byte) : Byte := crc8Shift^[8] (r ^^^ b)

/-- CRC-8 of a list of bytes in transmission order (R11). -/
def crc8 (bytes : List Byte) : Byte := bytes.foldl crc8Byte 0xFF#8

/-- One shift of the CRC-16 register: 0x1021 (R54). -/
def crc16Shift (r : Half) : Half :=
  if r.msb then (r <<< 1) ^^^ 0x1021#16 else r <<< 1

/-- One byte into the upper eight bits of the CRC-16 register (R54). -/
def crc16Byte (r : Half) (b : Byte) : Half := crc16Shift^[8] (r ^^^ (b.zeroExtend 16 <<< 8))

/-- CRC-16 of a list of bytes in transmission order (R54). -/
def crc16 (bytes : List Byte) : Half := bytes.foldl crc16Byte 0xFFFF#16

end Sys2Proof.Machine
end

