-- ==== Sys2Proof/Machine/LaneRx.lean ====
section
/-! DEFINITION. The Tally Lane Receiver: frames and their checks (R53 to R55, R67 to R70), training (R60 to R64), the
samples of the pins (R51), lane reset (R72), the return channel (R52), and the rows of the records that the lane takes at
once (R57, R122). -/

namespace Sys2Proof.Machine

/-! ### Frames -/

/-- KIND of a frame: the high nibble of its first complete byte (R53). -/
def frameKind (f : Frame) : Option (BitVec 4) := f.bytes.head?.map fun b => b.extractLsb' 4 4

/-- COUNT of a frame (R53). -/
def frameCount (f : Frame) : Nat := (f.bytes.head?.elim 0#4 fun b => b.extractLsb' 0 4).toNat

/-- SEQ of a frame: its byte 1 (R53). -/
def frameSeq (f : Frame) : Byte := f.bytes.getD 1 0#8

/-- The frame's last two bytes as a 16-bit value (R53). -/
def frameCrc (f : Frame) : Half :=
  f.bytes.getD (f.bytes.length - 2) 0#8 ++ f.bytes.getD (f.bytes.length - 1) 0#8

/-- Fewer than 4 complete bytes, or an incomplete final byte (R68). -/
def frameShort (f : Frame) : Bool := f.oddSample || f.bytes.length < 4

/-- The CRC is good (R54). -/
def frameCrcGood (f : Frame) : Bool :=
  !frameShort f && crc16 (f.bytes.take (f.bytes.length - 2)) = frameCrc f

/-- The pattern of a TRAINING frame, once (R55). -/
def trainingPattern : List Byte := [0x0F#8, 0xF0#8, 0x55#8, 0xAA#8, 0x33#8, 0xCC#8, 0x96#8, 0x69#8]

/-- Bytes 0 to 17 of a TRAINING frame (R55). -/
def trainingBody : List Byte := [0x20#8, 0x00#8] ++ trainingPattern ++ trainingPattern

/-- The frame matches (R55). -/
def frameMatches (f : Frame) : Bool :=
  f.bytes.length = 20 && !f.oddSample && f.bytes.take 18 = trainingBody && frameCrcGood f

/-- The records of an accepted DATA frame (R53). -/
def frameRecords (f : Frame) : List UpdateRecord :=
  parseRecords ((f.bytes.drop 2).take (7 * frameCount f))

/-! ### Training -/

/-- Entry to TRAIN: AUTO_TRAIN and TRIM are read here (R61, R63). -/
def State.enterTrain (s : State) : State :=
  let auto := s.laneControl.autoTrain
  { s with
    lane := { s.lane with
      state := .train
      trainTimer := 0
      training := { auto, trim := if auto then 0#4 else s.laneControl.trim, dwell := 0, failed := false,
                    scoreboard := 0#16, matched := 0#16 } } }

/-- The trims of a scoreboard that passed. -/
def passedTrim (scoreboard : Half) (t : Nat) : Bool := scoreboard.getLsbD t

/-- Length of the run of passing trims that starts at trim `t` and does not pass trim 15; `fuel` bounds the
search (R62). -/
def runLength (scoreboard : Half) : Nat → Nat → Nat
  | 0, _ => 0
  | fuel + 1, t => if passedTrim scoreboard t then runLength scoreboard fuel (t + 1) + 1 else 0

/-- Start and length of the longest run among those that start at trims `t` upward, the lowest-numbered of the
longest (R62). -/
def longestRun (scoreboard : Half) : Nat → Nat → Nat × Nat
  | 0, t => (t, 0)
  | fuel + 1, t =>
    let here := runLength scoreboard (fuel + 1) t
    let later := longestRun scoreboard fuel (t + 1)
    if later.2 ≤ here then (t, here) else later

/-- The trim that an automatic training selects, none with no passing trim (R62). -/
def selectTrim (scoreboard : Half) : Option Trim :=
  let run := longestRun scoreboard 16 0
  if run.2 = 0 then none else some (BitVec.ofNat 4 (run.1 + (run.2 - 1) / 2))

/-- Training passed: trim in use, counts cleared, READY(n), LOCKED (R64). -/
def State.trainingPassed (s : State) (t : Trim) : State :=
  let free : BitVec 3 :=
    if s.power.state = .quiescing then 0#3 else BitVec.ofNat 3 (Config.laneSlots - s.lane.buffer.length)
  { s with
    lane := { s.lane.send (.ready free) with
      state := .locked
      trimInUse := t
      expectedSeq := 0#8
      errors := 0#4 } }

/-- Training failed: the return queue is flushed, LANE_FAULT, LANE_STATE, FAULT (R64). -/
def State.trainingFailed (s : State) : State :=
  let matched := s.lane.training.matched
  let s := { s with lane := { s.lane with state := .fault, returnQueue := [] } }
  (s.log (s.event .laneFault .lane none matched)).raise .laneState

/-- The trim under evaluation has had its 16 frames (R61 to R64). -/
def State.trimJudged (s : State) : State :=
  let t := s.lane.training
  let board : Half := if t.failed then t.scoreboard else t.scoreboard ||| (1#16 <<< t.trim.toNat)
  let s := { s with lane := { s.lane with training := { t with scoreboard := board } } }
  if t.auto then
    if t.trim = 15#4 then
      match selectTrim board with
      | some u => s.trainingPassed u
      | none => s.trainingFailed
    else
      { s with
        lane := { s.lane with
          training := { t with scoreboard := board, trim := t.trim + 1, dwell := 0, failed := false } } }
  else if t.failed then s.trainingFailed
  else s.trainingPassed t.trim

/-- A frame in TRAIN: a DATA frame with a good CRC is ignored, any other is judged; either restarts the 64-tick
timer (R61). -/
def State.trainFrame (s : State) (f : Frame) : State :=
  let s := { s with lane := { s.lane with trainTimer := 0 } }
  if frameKind f = some 1#4 ∧ frameCrcGood f = true then s
  else
    let t := s.lane.training
    let good := frameMatches f
    let t' : Training :=
      { t with
        dwell := t.dwell + 1
        failed := t.failed || !good
        matched := if good then t.matched ||| (1#16 <<< t.trim.toNat) else t.matched }
    let s := { s with lane := { s.lane with training := t' } }
    if t'.dwell < Config.dwellFrames then s else s.trimJudged

/-- A frame in SEEK: DATA is ignored, anything else leads to TRAIN and is not judged (R60). -/
def State.seekFrame (s : State) (f : Frame) : State :=
  if frameKind f = some 1#4 then s else s.enterTrain

/-! ### DATA frames in LOCKED -/

/-- A LANE event without region and bin (R161). -/
def State.laneEvent (s : State) (code : EventCode) (detail : Half) : State :=
  s.log (s.event code .lane none detail)

/-- The end of a frame dropped under R68: LANE_ERROR, the consecutive-error count, and either the retrain of R70 or
a CREDIT (R71). -/
def State.frameDropped (s : State) : State :=
  let n := satInc s.lane.errors
  let counted : State := { s with lane := { s.lane with errors := n } }
  let s := counted.raise .laneError
  if s.laneControl.errLimit ≤ n then
    let s := ((s.laneEvent .laneRetrain (n.zeroExtend 16)).count .retrains).raise .laneState
    { s with lane := s.lane.enterSeek }
  else s.credit

/-- A format error with its reason code (R68). -/
def State.formatError (s : State) (reason low : Byte) : State :=
  ((s.count .formatErrors).laneEvent .laneFormat (reason ++ low)).frameDropped

/-- A CRC error; DETAIL is the number of complete bytes, up to 65,535 (R68). -/
def State.crcError (s : State) (f : Frame) : State :=
  ((s.count .crcErrors).laneEvent .laneCrc (BitVec.ofNat 16 (Nat.min f.bytes.length 65535))).frameDropped

/-- The frame is accepted (R69). -/
def State.acceptFrame (s : State) (f : Frame) : State :=
  let q := frameSeq f
  let expected := s.lane.expectedSeq
  let held : State :=
    { s with
      lane := { s.lane with
        buffer := s.lane.buffer ++ [{ seq := q, records := frameRecords f }]
        errors := 0#4
        expectedSeq := q + 1 } }
  let s := held.count .goodFrames
  if q = expected then s
  else ((s.count .seqGaps).laneEvent .laneSeq (expected ++ q)).raise .laneError

/-- An overrun (R67). -/
def State.overrun (s : State) : State :=
  ((s.count .overruns).laneEvent .laneOverrun 0#16).raise .laneError

/-- A frame in LOCKED: the checks of R67 and R68 in order, then acceptance (R69). -/
def State.lockedFrame (s : State) (f : Frame) : State :=
  if Config.laneSlots ≤ s.lane.buffer.length then s.overrun
  else if frameShort f then s.formatError 1#8 0#8
  else if frameCrcGood f = false then s.crcError f
  else if frameKind f = some 2#4 then s
  else if frameKind f ≠ some 1#4 then s.formatError 2#8 (frameSeq f)
  else if 1 ≤ frameCount f ∧ frameCount f ≤ 8 ∧ f.bytes.length = 4 + 7 * frameCount f then s.acceptFrame f
  else s.formatError 3#8 (frameSeq f)

/-- A frame arrives: the lane state says what becomes of it (R58). OFF and FAULT ignore it (R59, R65). -/
def State.frameArrives (s : State) (f : Frame) : State :=
  match s.lane.state with
  | .off | .fault => s
  | .seek => s.seekFrame f
  | .train => s.trainFrame f
  | .locked => s.lockedFrame f

/-! ### The pins (R51) -/

/-- One sample of LFRM and LD (R51): a frame begins with a high sample after a low one, takes a nibble with each high
sample, and arrives with the low sample that ends it. A run of high samples that is not received ends unnoticed. -/
def State.samplePins (s : State) (x : LaneSample) : State :=
  match s.lane.wire, x.lfrm with
  | .low, true => { s with lane := { s.lane with wire := .frame [x.ld] } }
  | .frame nibbles, true => { s with lane := { s.lane with wire := .frame (nibbles ++ [x.ld]) } }
  | .frame nibbles, false =>
    State.frameArrives { s with lane := { s.lane with wire := .low } } (frameOfNibbles nibbles)
  | .high, false => { s with lane := { s.lane with wire := .low } }
  | .low, false | .high, true => s

/-- One rising edge of LCLK: the bit on LRET has been held for its period (R52), and the receiver takes one sample, but
none while the lane is OFF (R51). -/
def State.lclkEdge (s : State) (x : LaneSample) : State :=
  let s : State := { s with lane := { s.lane with lret := s.lane.lret.tail } }
  if s.lane.state = .off then s else s.samplePins x

/-- Successive rising edges of LCLK, each a moment of its own. -/
def State.lclkEdges (s : State) (samples : List LaneSample) : State :=
  samples.foldl (fun s x => s.settle.lclkEdge x) s

/-- DATA_FRAME (R51, R67 to R70). -/
def execDataFrame (samples : List LaneSample) (s : State) : Out := takeStep s fun s => .next (s.lclkEdges samples)

/-- TRAINING_FRAME (R51, R60 to R64). -/
def execTrainingFrame (samples : List LaneSample) (s : State) : Out :=
  takeStep s fun s => .next (s.lclkEdges samples)

/-! ### Lane reset, return channel, records taken at once -/

/-- The lane after the passage through OFF that a lane reset or a soft reset makes at one moment (R72, R73): if it is
enabled it is in SEEK, and no sample has been missed in OFF, so only a frame in progress is abandoned (R51). -/
def Lane.restart (l : Lane) (enabled : Bool) : Lane :=
  let off := { l.endStall.enterOff with buffer := [], parked := false, errors := 0#4 }
  if enabled then Lane.enterSeek { off with wire := l.wire } else off

/-- A lane reset: the frames, the lane's parked record, a frame in progress on the pins and the return queue are
discarded, LANE_RESET is logged, LANE_STATE is set if the lane was LOCKED, and the lane goes to OFF and then, if enabled,
to SEEK (R72). -/
def State.laneReset (s : State) : State :=
  let held := s.lane.buffer.length
  let wasLocked := s.lane.state = .locked
  let s := { s with lane := s.lane.restart s.laneControl.enable }
  let s := s.laneEvent .laneReset (BitVec.ofNat 16 held)
  if wasLocked then s.raise .laneState else s

/-- RETURN_MESSAGE (R52): once the message before it has finished, the next message of the return queue begins to be
sent: its start bit goes out, and each edge of LCLK that follows brings the next of its ten bits. Two points that the
spec leaves open are settled here (DESIGN CHOICE, log entry 19): a message leaves the return queue with its start bit and
takes none of the 8 places from then on (R52); and messages left in the queue from SEEK are still sent in TRAIN, which
R58's table does not show, since R52 flushes the queue at OFF, SEEK and FAULT only. -/
def execReturnMessage (s : State) : Out :=
  takeStep s fun s =>
    match s.lane.lret, s.lane.returnQueue with
    | [], m :: rest => .next { s with lane := { s.lane with returnQueue := rest, lret := laneMessageBits m } }
    | _ :: _, _ | [], [] => .next s

/-- PAD_RECORD (R57): at the moment at which the PAD becomes the head record. -/
def execPadRecord (s : State) : Out := takeOutstanding s State.padRecord

/-- RESERVED_RECORD (R57): at the moment at which the record becomes the head record. -/
def execReservedRecord (s : State) : Out := takeOutstanding s State.reservedRecord

/-- MARKER_REGISTRATION (R122): at the moment at which a MARK is the head record and a slot is free. -/
def execMarkerRegistration (s : State) : Out := takeOutstanding s State.markRecord

end Sys2Proof.Machine
end

