-- ==== Sys2Proof/Machine/Power.lean ====
section
/-! DEFINITION. The resets (R164, R165, R170, R171), the entry into RETAIN (R167) and the WAKE (R169), and the posting of
completions (R46, R47). -/

namespace Sys2Proof.Machine

/-! ### Resets -/

/-- The part held in reset, every block at its value of the reset table; the array words and the waiting commands are
kept (R165, R171). -/
def State.inReset (s : State) (obligation : Bool) : State :=
  { State.reset with
    pending := s.pending
    array := { State.reset.array with words := s.array.words }
    power := { state := .init, held := true, fillObligation := obligation, fillRow := none, initEnd := none } }

/-- POWER_ON_RESET (R165): the fill obligation is set. -/
def execPowerOnReset (s : State) : Out := .next (s.inReset true)

/-- PIN_RESET (R165): the fill obligation is kept. -/
def execPinReset (s : State) : Out := .next (s.inReset s.power.fillObligation)

/-- RESET_RELEASE (R165): INIT, with the POISON_FILL of row index 0 requested if the fill obligation is set. -/
def execResetRelease (s : State) : Out :=
  if s.power.held then
    .next
      { s with
        power := { s.power with
          held := false
          fillRow := if s.power.fillObligation then some 0 else none } }
  else .next s

/-- END_OF_INITIALISATION (R165). -/
def execEndOfInitialisation (s : State) : Out := takeOutstanding s State.endOfInitialisation

/-- An INITIALIZING region after a soft reset (R84). -/
def Region.afterSoftReset (r : Region) : Region :=
  if r.state = .initializing then { r with state := .defined } else r

/-- The lane after a soft reset (R73). -/
def Lane.afterSoftReset (l : Lane) (enabled : Bool) : Lane := { l.restart enabled with expectedSeq := 0#8 }

/-- The effects of a soft reset on every block but the log, in the order of R170, steps 1 to 5 and the clearing of the
sticky causes. -/
def State.softCleared (s : State) : State :=
  { s with
    hostFifo := []
    hostParked := false
    commands := []
    completions := []
    regionController := .idle
    binUnit := .idle
    fence := none
    retain := .none
    markers := .free
    turn := .lane
    regions := s.regions.map Region.afterSoftReset
    entries := []
    lingerDivider := 0
    sweeps := []
    intake := []
    readout := []
    readoutSeq := 0#8
    array := { s.array with
      banks := closedBanks
      op := none
      pointer := .binAccess
      ecc := .none
      eccRearmed := false }
    timebase := { s.timebase with count := 0#32, tickDivider := s.timebase.tbDiv }
    alerts := { s.alerts with sticky := 0#12 }
    power := { s.power with state := if s.power.state = .quiescing then .run else s.power.state } }

/-- A soft reset (R170). -/
def State.softReset (s : State) : State :=
  let s := s.softCleared
  let s := s.log (s.event .softReset .host none 0#16)
  { s with
    lane := s.lane.afterSoftReset s.laneControl.enable
    host := { s.host with armed := false } }

/-! ### RETAIN and WAKE -/

/-- The lane at entry into RETAIN: OFF, its return queue flushed, without LANE_STATE (R73, R167). -/
def Lane.atRetain (l : Lane) : Lane := { l.endStall.enterOff with errors := 0#4 }

/-- The clean end of a WAKE in RETAIN (R169); in any other power state it has no effect (R29). -/
def State.wakeUp (s : State) : State :=
  if s.power.state = .retain then
    let s : State :=
      { s with
        power := { s.power with state := .run }
        refreshTimer := { s.refreshTimer with debt := 0, divider := 0 }
        array := { s.array with selfRefresh := false }
        lane := if s.laneControl.enable then s.lane.enterSeek else s.lane
        retain := .none }
    s.raise .power
  else s

/-! ### Posting completions (R46, R47) -/

/-- The producers of completion records, but for the Power Manager's OK, which ENTER_RETAIN posts (R43). -/
inductive Producer where
  | marker (slot : MarkerSlot)
  | fence (ticket : Ticket)
  | binUnit (c : Completion)
  | regionController (c : Completion)
  | headSweep (ticket : Ticket) (result : Result)
  | intake (c : Completion)
  | refusedRetain (ticket : Ticket)
deriving DecidableEq, Repr

/-- Every entry present, in the list or withdrawn. -/
def State.present (s : State) : List Entry := s.entries ++ s.withdrawn

/-- The marker that posts next: the earlier-registered one, once its wait set is empty (R46, R123). -/
def State.readyMarker (s : State) : Option MarkerSlot :=
  let first : Option MarkerSlot :=
    match s.markers.slot0, s.markers.slot1 with
    | none, none => none
    | some _, none => some .slot0
    | none, some _ => some .slot1
    | some _, some _ => some s.markers.older
  first.filter fun slot => !s.present.any fun e => e.waits.hasMark slot

/-- The fence's completion is ready: its wait set is empty (R41). -/
def State.readyFence (s : State) : Option Ticket :=
  s.fence.filter fun _ => !s.present.any fun e => e.waits.fence

/-- The producer that posts next, in the order of R46. -/
def State.nextProducer (s : State) : Option Producer :=
  match s.readyMarker with
  | some slot => some (.marker slot)
  | none =>
    match s.readyFence with
    | some t => some (.fence t)
    | none =>
      match s.binUnit with
      | .posting c => some (.binUnit c)
      | .idle | .read _ _ _ | .write _ _ _ _ =>
        match s.regionController with
        | .posting c _ => some (.regionController c)
        | .idle | .awaiting _ | .filling _ _ _ =>
          match s.sweeps.head? with
          | some { ticket := t, state := .posting r, .. } => some (.headSweep t r)
          | _ =>
            match s.intake, s.retain with
            | c :: _, _ => some (.intake c)
            | [], .refused t => some (.refusedRetain t)
            | [], _ => none

/-- A completion record enters the queue at its tail (R43). -/
def State.post (s : State) (c : Completion) : State := { s with completions := s.completions ++ [c] }

/-- A marker slot frees; when the other is free too, that one was freed first (R122). -/
def Markers.release (m : Markers) : MarkerSlot → Markers
  | .slot0 => { m with slot0 := none, freedFirst := if m.slot1.isNone then .slot1 else .slot0 }
  | .slot1 => { m with slot1 := none, freedFirst := if m.slot0.isNone then .slot0 else .slot1 }

/-- The marker value in a slot. -/
def Markers.value (m : Markers) : MarkerSlot → Half
  | .slot0 => m.slot0.getD 0#16
  | .slot1 => m.slot1.getD 0#16

/-- A producer posts its record and is released (R36, R39, R47, R123, R133). -/
def State.postFrom (s : State) : Producer → State
  | .marker slot =>
    { s.post (markerCompletion (s.markers.value slot)) with markers := s.markers.release slot }
  | .fence t => { s.post (plainCompletion t .ok) with fence := none }
  | .binUnit c => { s.post c with binUnit := .idle }
  | .regionController c => { s.post c with regionController := .idle }
  | .headSweep t r => { s.post (plainCompletion t r) with sweeps := s.sweeps.tail }
  | .intake c => { s.post c with intake := s.intake.tail }
  | .refusedRetain t => { s.post (plainCompletion t .refused) with retain := .none }

/-- COMPLETION_POST (R46, R47): with a free slot, the first producer in order posts; otherwise it waits. -/
def execCompletionPost (s : State) : Out :=
  takeStep s fun s =>
    if s.completions.length < Config.completionSlots then
      match s.nextProducer with
      | some p => .next (s.postFrom p)
      | none => .next s
    else .next s

/-! ### Entry into RETAIN (R167) -/

/-- A Host Port transaction lies between its decision point and its end (R15). -/
def Transaction.decided : Transaction → Bool
  | .response _ _ => true
  | .idle | .opcode | .request _ | .sink => false

/-- The nine conditions of R167, and no earlier producer has a record ready (R46). -/
def State.mayRetain (s : State) : Bool :=
  s.power.state = .quiescing
    && s.lane.buffer.isEmpty && s.hostFifo.isEmpty && !s.lane.parked && !s.hostParked
    && s.occupancy = 0 && s.markers.slot0.isNone && s.markers.slot1.isNone
    && s.array.op.isNone && s.refreshTimer.debt = 0
    && s.completions.length < Config.completionSlots && s.nextProducer.isNone
    && !s.host.tx.decided

/-- The entry: completion posted, banks closed, lane OFF, ticks stopped, self-refresh (R167). -/
def State.enterRetain (s : State) (t : Ticket) : State :=
  let s := s.post (plainCompletion t .ok)
  { s with
    retain := .retained
    lane := s.lane.atRetain
    array := { s.array with banks := closedBanks, selfRefresh := true }
    power := { s.power with state := .retain } }

/-- ENTER_RETAIN (R167). -/
def execEnterRetain (s : State) : Out :=
  takeStep s fun s =>
    match s.retain with
    | .quiescing t => if s.mayRetain then .next (s.enterRetain t) else .next s
    | .none | .refused _ | .retained => .next s

end Sys2Proof.Machine
end

