-- ==== Sys2Proof/Machine/Registers.lean ====
section
/-! DEFINITION. The registers of Chapter 11: index map, what a read returns (R172, R175), which writes are accepted
(R172, R173), and what an accepted write does at its clean end (R22, R92, R156, R174). -/

namespace Sys2Proof.Machine

/-! ### Index map (section 11.1) -/

/-- The index of a statistics counter (R75, section 9.3). -/
def statIndex : StatCounter → Byte
  | .goodFrames => 0x0A#8
  | .crcErrors => 0x0B#8
  | .formatErrors => 0x0C#8
  | .seqGaps => 0x0D#8
  | .overruns => 0x0E#8
  | .retrains => 0x0F#8
  | .rowHits => 0x19#8
  | .rowMisses => 0x1A#8
  | .ceCount => 0x1B#8
  | .ueCount => 0x1C#8
  | .refreshOverruns => 0x1D#8

/-- The register of an index, none where the index is unassigned (section 11.1). -/
def registerOf (index : Byte) : Option Register :=
  let n := index.extractLsb' 0 4
  match index.toNat with
  | 0x00 => some .deviceId
  | 0x01 => some .powerStatus
  | 0x02 => some .timebase
  | 0x03 => some .mergeControl
  | 0x04 => some .refreshControl
  | 0x05 => some .readoutControl
  | 0x06 => some .holdLimit
  | 0x07 => some .tickCount
  | 0x08 => some .laneControl
  | 0x09 => some .laneStatus
  | 0x0A => some (.counter .goodFrames)
  | 0x0B => some (.counter .crcErrors)
  | 0x0C => some (.counter .formatErrors)
  | 0x0D => some (.counter .seqGaps)
  | 0x0E => some (.counter .overruns)
  | 0x0F => some (.counter .retrains)
  | 0x10 => some .alertRaw
  | 0x11 => some .alertEnable
  | 0x12 => some .alertClear
  | 0x13 => some .eventStatus
  | 0x18 => some .arrayStatus
  | 0x19 => some (.counter .rowHits)
  | 0x1A => some (.counter .rowMisses)
  | 0x1B => some (.counter .ceCount)
  | 0x1C => some (.counter .ueCount)
  | 0x1D => some (.counter .refreshOverruns)
  | 0x1E => some .eccInject
  | 0x50 => some .mergeStatus
  | 0x51 => some .queueStatus
  | _ =>
    let block := index.extractLsb' 4 4
    if block = 2#4 then some (.regionStatus n)
    else if block = 3#4 then some (.regionDescA n)
    else if block = 4#4 then some (.regionDescB n)
    else none

/-! ### Reading (R21, R172, R175) -/

/-- A field of `w` bits placed at bit `at_` of a register. -/
def field {w : Nat} (v : BitVec w) (at_ : Nat) : Word := v.zeroExtend 32 <<< at_

/-- A count as a field of a register. -/
def countField (n at_ : Nat) : Word := BitVec.ofNat 32 n <<< at_

/-- A flag as a bit of a register. -/
def flag (b : Bool) (at_ : Nat) : Word := field (BitVec.ofBool b) at_

/-- TIMEBASE. -/
def readTimebase (t : Timebase) : Word := field t.tbDiv 0

/-- MERGE_CONTROL. -/
def readMergeControl (m : MergeControl) : Word :=
  field m.watermark 0 ||| field m.lingerLimit 8 ||| field m.lingerPeriod 16

/-- LANE_CONTROL; ACTION reads NONE. -/
def readLaneControl (l : LaneControl) : Word :=
  flag l.enable 0 ||| flag l.autoTrain 1 ||| field l.trim 4 ||| field l.errLimit 8

/-- LANE_STATUS; during TRAIN the trim shown is the one under evaluation (R58). -/
def readLaneStatus (l : Lane) : Word :=
  field (laneStateCode l.state) 0
    ||| field (if l.state = .train then l.training.trim else l.trimInUse) 4
    ||| countField l.buffer.length 8
    ||| field l.expectedSeq 16
    ||| field l.errors 24

/-- EVENT_STATUS. -/
def readEventStatus (s : State) : Word := countField s.eventLog.length 0 ||| field s.lost 8

/-- ARRAY_STATUS. -/
def readArrayStatus (s : State) : Word :=
  countField s.refreshTimer.debt 0 ||| countField (openBanks s.array) 8

/-- REGION_STATUS[n]; CLEAR_COUNT reads 0. -/
def readRegionStatus (r : Region) : Word :=
  field (regionStateCode r.state) 0 ||| flag r.satSeen 4 ||| flag r.wrapSeen 5 ||| flag r.poisonSeen 6
    ||| flag r.rejectSeen 7 ||| field r.rejectCount 16

/-- REGION_DESC_A[n]. -/
def readDescA (d : Descriptor) : Word :=
  field d.base 0 ||| field (formatCode d.format) 24 ||| field (operatorCode d.operator) 28

/-- REGION_DESC_B[n]. -/
def readDescB (d : Descriptor) : Word :=
  field d.binsMinus1 0 ||| field d.decayShift 16 ||| field (roundingCode d.rounding) 20
    ||| field d.inputShift 24 ||| flag d.laneOk 28 ||| flag d.hostOk 29

/-- The number of busy marker wait slots. -/
def Markers.busy (m : Markers) : Nat := m.slot0.isSome.toNat + m.slot1.isSome.toNat

/-- MERGE_STATUS (R109): the three state counts count entries in the list only. -/
def readMergeStatus (s : State) : Word :=
  countField s.occupancy 0
    ||| countField (s.entries.countP fun e => !e.isSealed) 5
    ||| countField (s.entries.countP Entry.isSealed) 10
    ||| countField (s.entries.countP s.pinned) 15
    ||| flag s.lane.parked 20 ||| flag s.hostParked 21 ||| countField s.markers.busy 22

/-- QUEUE_STATUS (R31, R33, R127). -/
def readQueueStatus (s : State) : Word :=
  countField s.commands.length 0 ||| countField s.completions.length 4 ||| countField s.readout.length 8
    ||| countField s.hostFifo.length 16 ||| countField s.sweeps.length 24
    ||| field (s.sweeps.head?.elim 0#3 fun w => sweepStateCode w.state) 28
    ||| flag (s.commands.head?.elim false fun c => 0 < c.mark) 31

/-- The value that a REG_READ returns (R21, R172). -/
def readRegister (s : State) : Register → Word
  | .deviceId => Config.deviceId
  | .powerStatus => field (powerStateCode s.power.state) 0
  | .timebase => readTimebase s.timebase
  | .mergeControl => readMergeControl s.mergeControl
  | .refreshControl => field s.refreshTimer.interval 0
  | .readoutControl => field s.readoutWatermark 0
  | .holdLimit => field s.laneControl.holdLimit 0
  | .tickCount => s.timebase.count
  | .laneControl => readLaneControl s.laneControl
  | .laneStatus => readLaneStatus s.lane
  | .counter c => statValue s.stats c
  | .alertRaw => field (alertRaw s) 0
  | .alertEnable => field s.alerts.enable 0
  | .alertClear => 0#32
  | .eventStatus => readEventStatus s
  | .arrayStatus => readArrayStatus s
  | .eccInject => field (eccModeCode s.array.ecc) 0
  | .regionStatus n => readRegionStatus (s.region n)
  | .regionDescA n => readDescA (s.region n).desc
  | .regionDescB n => readDescB (s.region n).desc
  | .mergeStatus => readMergeStatus s
  | .queueStatus => readQueueStatus s

/-! ### Accepting a write (R22, R172, R173) -/

/-- A field's value in a written word. -/
def fieldOf (v : Word) (at_ w : Nat) : Nat := (v.extractLsb' at_ w).toNat

/-- The write is not BAD_FIELD: the register is not read-only in its entirety, and every defined field is in its
range (R172, R173). -/
def writeAccepted (v : Word) : Register → Bool
  | .timebase => 1 ≤ fieldOf v 0 13 && fieldOf v 0 13 ≤ 4096
  | .mergeControl => fieldOf v 0 5 ≤ 16 && 1 ≤ fieldOf v 16 8
  | .refreshControl => 1 ≤ fieldOf v 0 6
  | .readoutControl => 1 ≤ fieldOf v 0 7 && fieldOf v 0 7 ≤ 64
  | .laneControl => 1 ≤ fieldOf v 8 4
  | .eccInject => fieldOf v 0 2 ≤ 2
  | .holdLimit | .counter _ | .alertEnable | .alertClear | .eventStatus | .regionStatus _ => true
  | .deviceId | .powerStatus | .tickCount | .laneStatus | .alertRaw | .arrayStatus | .regionDescA _
  | .regionDescB _ | .mergeStatus | .queueStatus => false

/-! ### What an accepted write does at its clean end -/

/-- The programmed TRIM after a write of LANE_CONTROL (R66, R174). -/
def writtenTrim (old : Trim) (v : Word) : Trim :=
  let action := v.extractLsb' 16 2
  if action = 1#2 then (if old = 15#4 then old else old + 1)
  else if action = 2#2 then (if old = 0#4 then old else old - 1)
  else v.extractLsb' 4 4

/-- LANE_CONTROL: the fields first, then one combined outcome of the change of LANE_ENABLE and of RESET (R174). -/
def State.writeLaneControl (s : State) (v : Word) : State :=
  let before := s.laneControl.enable
  let after := v.getLsbD 0
  let reset := v.extractLsb' 16 2 = 3#2
  let s :=
    { s with
      laneControl := { s.laneControl with
        enable := after
        autoTrain := v.getLsbD 1
        trim := writtenTrim s.laneControl.trim v
        errLimit := v.extractLsb' 8 4 } }
  if reset ∨ (before = true ∧ after = false) then s.laneReset
  else if before = false ∧ after = true then { s with lane := s.lane.enterSeek }
  else s

/-- REGION_STATUS[n]: flags written as 1 are cleared; CLEAR_COUNT sets REJECT_COUNT to 0 (R92). -/
def State.writeRegionStatus (s : State) (n : RegionIx) (v : Word) : State :=
  let r := s.region n
  s.setRegion n
    { r with
      satSeen := r.satSeen && !v.getLsbD 4
      wrapSeen := r.wrapSeen && !v.getLsbD 5
      poisonSeen := r.poisonSeen && !v.getLsbD 6
      rejectSeen := r.rejectSeen && !v.getLsbD 7
      rejectCount := if v.getLsbD 8 then 0#16 else r.rejectCount }

/-- The MODE that a write of ECC_INJECT sets (R152). -/
def writtenMode (v : Word) : EccMode :=
  if v.extractLsb' 0 2 = 1#2 then .single else if v.extractLsb' 0 2 = 2#2 then .double else .none

/-- ECC_INJECT: the mode is armed or disarmed; one armed while an operation is in progress outlives that operation
(R152). -/
def State.writeEcc (s : State) (v : Word) : State :=
  { s with array := { s.array with ecc := writtenMode v, eccRearmed := s.array.op.isSome } }

/-- An accepted REG_WRITE at its clean end (R22, R172). A register that is read-only in its entirety never gets here. -/
def State.writeRegister (s : State) (v : Word) : Register → State
  | .timebase => { s with timebase := { s.timebase with tbDiv := v.extractLsb' 0 13 } }
  | .mergeControl =>
    { s with
      mergeControl :=
        { watermark := v.extractLsb' 0 5, lingerLimit := v.extractLsb' 8 4, lingerPeriod := v.extractLsb' 16 8 } }
  | .refreshControl => { s with refreshTimer := { s.refreshTimer with interval := v.extractLsb' 0 6 } }
  | .readoutControl => { s with readoutWatermark := v.extractLsb' 0 7 }
  | .holdLimit => { s with laneControl := { s.laneControl with holdLimit := v.extractLsb' 0 16 } }
  | .laneControl => s.writeLaneControl v
  | .counter c => { s with stats := statClear s.stats c }
  | .alertEnable => { s with alerts := { s.alerts with enable := v.extractLsb' 0 12 } }
  | .alertClear => { s with alerts := { s.alerts with sticky := s.alerts.sticky &&& ~~~(v.extractLsb' 0 12) } }
  | .eventStatus => { s with lost := 0#8 }
  | .eccInject => s.writeEcc v
  | .regionStatus n => s.writeRegionStatus n v
  | .deviceId | .powerStatus | .tickCount | .laneStatus | .alertRaw | .arrayStatus | .regionDescA _
  | .regionDescB _ | .mergeStatus | .queueStatus => s

end Sys2Proof.Machine
end

