-- ==== Sys2Proof/Machine/HostPort.lean ====
section
/-! DEFINITION. The Host Port: select and status byte (R4, R9), the decision point (R6, R13, R14), the immediate commands
(R20 to R30), the ends of a transaction and the commit (R15 to R18), and what the part drives on SDO (R8). -/

namespace Sys2Proof.Machine

/-! ### The status byte (R9) -/

/-- The status byte from the state as it stands (R9). -/
def statusByte (s : State) : Byte :=
  bit (s.power.state ≠ .init) ++ bit (alertActive s) ++ bit (!s.completions.isEmpty)
    ++ bit (!s.readout.isEmpty) ++ bit (Config.commandSlots ≤ s.commands.length)
    ++ bit (Config.hostFifoSlots - 3 ≤ s.hostFifo.length) ++ bit s.host.prevOutcome
    ++ bit (s.power.state = .retain || s.power.state = .quiescing)

/-! ### Decisions (R13, R14) -/

/-- What the power state answers to an opcode before its own checks (R14); none where it is allowed. -/
def powerRefusal (p : PowerState) (op : Opcode) : Option ResponseCode :=
  match p, op with
  | _, .status => none
  | .init, _ => some .notReady
  | .run, _ => none
  | .quiescing, .postUpdates | .quiescing, .wake => some .state
  | .quiescing, _ => none
  | .retain, .regWrite | .retain, .postUpdates | .retain, .submit | .retain, .softReset => some .state
  | .retain, _ => none

/-- A response that commits nothing (R10, R12). -/
def refuse (code : ResponseCode) : Decision := { code, body := [], commit := .nothing }

/-- ACCEPT with a body and the effects to commit (R10, R15). -/
def accept (body : List Byte) (commit : Commit) : Decision := { code := .accept, body, commit }

/-- The decision on a request (R13): the CRC over opcode and body first, then the power state, then the command's own
checks. -/
def decision (s : State) (op : Opcode) (body : List Byte) (crc : Byte) (own : Decision) : Decision :=
  if crc8 (opcodeByte op :: body) ≠ crc then refuse .badCrc
  else
    match powerRefusal s.power.state op with
    | some code => refuse code
    | none => own

/-- A host protocol error: HOST_FRAMING with the opcode byte and the reason, and HOST_ERROR (R16 to R18). -/
def State.hostError (s : State) (opcode reason : Byte) : State :=
  (s.log (s.event .hostFraming .host none (opcode ++ reason))).raise .hostError

/-- The decision point: the outcome is fixed, and a bad CRC is reported (R6, R13, R18). -/
def State.respond (s : State) (op : Opcode) (d : Decision) : State :=
  let s : State := { s with host := { s.host with tx := .response op d } }
  if d.code = .badCrc then s.hostError (opcodeByte op) 2#8 else s

/-- A request arrives whole, from its opcode to its CRC: with the port in OPCODE it goes to its decision point (R7); with
the port in any other state these bytes start nothing (R4, R8). -/
def request (op : Opcode) (body : List Byte) (crc : Byte) (own : State → Decision) (s : State) : Out :=
  takeStep s fun s =>
    if s.host.tx = .opcode then .next (s.respond op (decision s op body crc (own s))) else .next s

/-- Entry to SINK: the error is reported at once (R17). -/
def State.enterSink (s : State) (opcode reason : Byte) : State :=
  State.hostError { s with host := { s.host with tx := .sink } } opcode reason

/-! ### Select -/

/-- SSEL_N_FALL (R4, R5, R7, R9): a transaction starts, its clock mode is fixed and the status byte is sampled. -/
def execSselNFall (sckHigh : Bool) (s : State) : Out :=
  takeStep s fun s =>
    if s.host.tx = .idle then
      .next
        { s with
          host := { s.host with
            tx := .opcode
            mode := if sckHigh then .mode3 else .mode0
            statusByte := statusByte s } }
    else .next s

/-! ### The immediate commands -/

/-- The body of a STATUS response (R20). -/
def statusBody (s : State) : List Byte :=
  [statusByte s, BitVec.ofNat 8 s.commands.length, BitVec.ofNat 8 s.completions.length,
    BitVec.ofNat 8 s.readout.length, BitVec.ofNat 8 s.hostFifo.length,
    (powerStateCode s.power.state).zeroExtend 8]

/-- STATUS (R20). -/
def execStatus (crc : Byte) (s : State) : Out :=
  request .status [] crc (fun s => accept (statusBody s) .nothing) s

/-- REG_READ (R21). -/
def execRegRead (index crc : Byte) (s : State) : Out :=
  request .regRead [index] crc
    (fun s =>
      match registerOf index with
      | some r => accept (wordBytes (readRegister s r)) .nothing
      | none => refuse .badField) s

/-- The decision on a REG_WRITE that has passed its CRC and the power state (R22, R172, R173). -/
def writeDecision (index : Byte) (value : Word) : Decision :=
  match registerOf index with
  | some r => if writeAccepted value r then accept [] (.writeRegister r value) else refuse .badField
  | none => refuse .badField

/-- A REG_WRITE request (R22): index, then the value. -/
def registerWrite (index : Byte) (value : Word) (crc : Byte) (s : State) : Out :=
  request .regWrite (index :: wordBytes value) crc (fun _ => writeDecision index value) s

/-- REG_WRITE (R22). -/
def execRegWrite (index : Byte) (value : Word) (crc : Byte) (s : State) : Out := registerWrite index value crc s

/-- The body of a POST_UPDATES request (R23). -/
def postBody (records : List UpdateRecord) : List Byte :=
  BitVec.ofNat 8 records.length :: records.flatMap updateRecordBytes

/-- The decision on a POST_UPDATES: TYPE of every record, then room (R23). -/
def postDecision (s : State) (records : List UpdateRecord) : Decision :=
  if records.all (fun r => r.type = .update) then
    if s.hostFifo.length + records.length ≤ Config.hostFifoSlots then
      accept [] (.post (records.map hostRecordOf))
    else refuse .full
  else refuse .badField

/-- POST_UPDATES (R23); a count byte of 0 or above 4 leads to SINK (R17). -/
def execPostUpdates (records : List UpdateRecord) (crc : Byte) (s : State) : Out :=
  if 1 ≤ records.length ∧ records.length ≤ 4 then
    request .postUpdates (postBody records) crc (fun s => postDecision s records) s
  else
    takeStep s fun s =>
      if s.host.tx = .opcode then .next (s.enterSink (opcodeByte .postUpdates) 4#8) else .next s

/-- The decision on a SUBMIT: kind and reserved encodings, then room (R25, R34). -/
def submitDecision (s : State) (ticket kind : Byte) (params : BitVec 96) : Decision :=
  match kindOfByte kind with
  | none => refuse .badField
  | some k =>
    if goodParams k params then
      if s.commands.length < Config.commandSlots then
        accept [] (.submit (ticket.extractLsb' 0 4) k params)
      else refuse .full
    else refuse .badField

/-- SUBMIT (R25). -/
def execSubmit (ticket kind : Byte) (params : BitVec 96) (crc : Byte) (s : State) : Out :=
  request .submit (ticket :: kind :: paramBytes params) crc (fun s => submitDecision s ticket kind params) s

/-- TAKE_COMPLETION (R26). -/
def execTakeCompletion (crc : Byte) (s : State) : Out :=
  request .takeCompletion [] crc
    (fun s =>
      match s.completions with
      | [] => refuse .empty
      | c :: _ => accept (completionBytes c) .takeCompletion) s

/-- The decision on a TAKE_READOUT (R27). -/
def readoutDecision (s : State) (m : Byte) : Decision :=
  if m = 0#8 || 8 < m.toNat then refuse .badField
  else if s.readout.isEmpty then refuse .empty
  else
    let n := Nat.min m.toNat s.readout.length
    accept (BitVec.ofNat 8 n :: (s.readout.take n).flatMap readoutBytes) (.takeReadout n)

/-- TAKE_READOUT (R27). -/
def execTakeReadout (m crc : Byte) (s : State) : Out :=
  request .takeReadout [m] crc (fun s => readoutDecision s m) s

/-- TAKE_EVENT (R28). -/
def execTakeEvent (crc : Byte) (s : State) : Out :=
  request .takeEvent [] crc
    (fun s =>
      match s.eventLog with
      | [] => refuse .empty
      | e :: _ => accept (eventBytes e) .takeEvent) s

/-- WAKE (R29): its effect in RETAIN comes at the clean end. -/
def execWake (crc : Byte) (s : State) : Out := request .wake [] crc (fun _ => accept [] .wake) s

/-- SOFT_RESET (R30): ARMED with the arm DISARMED, ACCEPT with the arm ARMED. -/
def execSoftReset (crc : Byte) (s : State) : Out :=
  request .softReset [] crc
    (fun s => if s.host.armed then accept [] .softReset else { code := .armed, body := [], commit := .arm }) s

/-! ### The register rows: REG_WRITE transactions whose register acts (R22) -/

/-- A LANE_CONTROL value with its ACTION field replaced (R174). -/
def withAction (action : BitVec 2) (value : Word) : Word :=
  value.extractLsb' 18 14 ++ action ++ value.extractLsb' 0 16

/-- A REGION_STATUS value with its CLEAR_COUNT bit replaced (R92). -/
def withClearCount (clear : Bool) (value : Word) : Word :=
  value.extractLsb' 9 23 ++ BitVec.ofBool clear ++ value.extractLsb' 0 8

/-- TRIM_UP (R66, R174). -/
def execTrimUp (value : Word) (crc : Byte) (s : State) : Out := registerWrite 0x08#8 (withAction 1#2 value) crc s

/-- TRIM_DOWN (R66, R174). -/
def execTrimDown (value : Word) (crc : Byte) (s : State) : Out := registerWrite 0x08#8 (withAction 2#2 value) crc s

/-- LANE_RESET (R72, R174). -/
def execLaneReset (value : Word) (crc : Byte) (s : State) : Out := registerWrite 0x08#8 (withAction 3#2 value) crc s

/-- LANE_ENABLE (R59, R174). -/
def execLaneEnable (value : Word) (crc : Byte) (s : State) : Out := registerWrite 0x08#8 (withAction 0#2 value) crc s

/-- ALERT_CLEAR (R156). -/
def execAlertClear (value : Word) (crc : Byte) (s : State) : Out := registerWrite 0x12#8 value crc s

/-- EVENT_STATUS (R159). -/
def execEventStatus (value : Word) (crc : Byte) (s : State) : Out := registerWrite 0x13#8 value crc s

/-- STATISTICS_COUNTER_CLEAR (R3). -/
def execStatisticsCounterClear (c : StatCounter) (value : Word) (crc : Byte) (s : State) : Out :=
  registerWrite (statIndex c) value crc s

/-- The index of REGION_STATUS[n] (section 11.1). -/
def regionStatusIndex (n : RegionIx) : Byte := 2#4 ++ n

/-- REGION_STATUS (R92). -/
def execRegionStatus (n : RegionIx) (value : Word) (crc : Byte) (s : State) : Out :=
  registerWrite (regionStatusIndex n) (withClearCount false value) crc s

/-- CLEAR_COUNT (R92). -/
def execClearCount (n : RegionIx) (value : Word) (crc : Byte) (s : State) : Out :=
  registerWrite (regionStatusIndex n) (withClearCount true value) crc s

/-- ECC_INJECT (R152). -/
def execEccInject (value : Word) (crc : Byte) (s : State) : Out := registerWrite 0x1E#8 value crc s

/-! ### The commit (R15) -/

/-- A STALLED head sweep continues once the Readout FIFO has a free slot (R131). -/
def State.resumeSweep (s : State) : State :=
  match s.sweeps with
  | [] => s
  | w :: rest =>
    if w.state = .stalled && s.readout.length < Config.readoutSlots then
      { s with sweeps := { w with state := .running } :: rest }
    else s

/-- The effects of a decided command (R15). -/
def State.commit (s : State) : Commit → State
  | .nothing => s
  | .writeRegister r v => s.writeRegister v r
  | .post records => { s with hostFifo := s.hostFifo ++ records }
  | .submit ticket kind params =>
    { s with commands := s.commands ++ [{ ticket, kind, params, mark := s.hostFifo.length }] }
  | .takeCompletion => { s with completions := s.completions.tail }
  | .takeReadout n => State.resumeSweep { s with readout := s.readout.drop n }
  | .takeEvent => { s with eventLog := s.eventLog.tail }
  | .wake => s.wakeUp
  | .arm => s
  | .softReset => s.softReset

/-- The arm after a clean end (R30): ARMED only by the SOFT_RESET that received ARMED. -/
def Commit.leavesArmed : Commit → Bool
  | .arm => true
  | .nothing | .writeRegister _ _ | .post _ | .submit _ _ _ | .takeCompletion | .takeReadout _
  | .takeEvent | .wake | .softReset => false

/-- The port at the end of a transaction: IDLE, with the previous outcome and the arm (R7, R12, R30). -/
def State.endTransaction (s : State) (outcome armed : Bool) : State :=
  { s with host := { s.host with tx := .idle, prevOutcome := outcome, armed } }

/-- CLEAN_END (R15): the decided command commits all its effects, the previous outcome is set from its response code, and
the arm is left as R30 states. -/
def execCleanEnd (s : State) : Out :=
  takeStep s fun s =>
    match s.host.tx with
    | .response _ d => .next ((s.commit d.commit).endTransaction (responseIsError d.code) d.commit.leavesArmed)
    | .idle | .opcode | .request _ | .sink => .next s

/-- EARLY_END (R16): nothing is committed; the error is reported unless this transaction has already logged one, the
previous outcome is 1 and the arm is DISARMED. In OPCODE the opcode byte that arrived is the row's own. -/
def execEarlyEnd (op : Opcode) (s : State) : Out :=
  takeStep s fun s =>
    match s.host.tx with
    | .opcode => .next ((s.hostError (opcodeByte op) 1#8).endTransaction true false)
    | .request o => .next ((s.hostError (opcodeByte o) 1#8).endTransaction true false)
    | .response o d =>
      if d.code = .badCrc then .next (s.endTransaction true false)
      else .next ((s.hostError (opcodeByte o) 1#8).endTransaction true false)
    | .idle | .sink => .next s

/-- SINK (R17): an unassigned opcode byte, or a bad POST_UPDATES count byte. Bytes that do not lead to SINK are not this
event. -/
def execSink (cause : SinkCause) (s : State) : Out :=
  takeStep s fun s =>
    if s.host.tx = .opcode then
      match cause with
      | .badOpcode b =>
        if [0x05#8, 0x10#8, 0x11#8, 0x20#8, 0x30#8, 0x40#8, 0x41#8, 0x42#8, 0x50#8, 0x5A#8].contains b then .next s
        else .next (s.enterSink b 3#8)
      | .badCount n =>
        if 1 ≤ n.toNat ∧ n.toNat ≤ 4 then .next s else .next (s.enterSink (opcodeByte .postUpdates) 4#8)
    else .next s

/-- SINK_END (R17). -/
def execSinkEnd (s : State) : Out :=
  takeStep s fun s => if s.host.tx = .sink then .next (s.endTransaction true false) else .next s

/-- IGNORED_LOW_PERIOD (R5): nothing but the return from OPCODE to IDLE. -/
def execIgnoredLowPeriod (s : State) : Out :=
  takeStep s fun s =>
    if s.host.tx = .opcode then .next { s with host := { s.host with tx := .idle } } else .next s

/-! ### SDO (R8) -/

/-- The bytes of a response: code, body, CRC (R10, R11). -/
def responseBytes (d : Decision) : List Byte :=
  let covered := responseByte d.code :: d.body
  covered ++ [crc8 covered]

/-- What the part sends on SDO (R8): the status byte in OPCODE, 0x00 in REQUEST, in RESPONSE the response bytes and
then 0xFF (`i` counts from the response code), 0xFF in SINK, and nothing in IDLE, where SSEL_N is high (R4). DESIGN CHOICE
(log entry 23): after a reset released with SSEL_N still low no transaction runs (R5), and R4 and R8 do not say what SDO
carries until SSEL_N rises; here the port is in IDLE and drives nothing. -/
def sdo (h : HostPort) (i : Nat) : Option Byte :=
  match h.tx with
  | .idle => none
  | .opcode => some h.statusByte
  | .request _ => some 0x00#8
  | .response _ d => some ((responseBytes d).getD i 0xFF#8)
  | .sink => some 0xFF#8

/-- The bit on SDO in bit period `i` of the transaction state: each byte goes out most significant bit first (R1). -/
def sdoBit (h : HostPort) (i : Nat) : Option Bool := (sdo h (i / 8)).map fun b => b.getMsbD (i % 8)

end Sys2Proof.Machine
end

