-- ==== Sys2Proof/Machine/Updates.lean ====
section
/-! DEFINITION. UPDATE_ACCEPTANCE: the heads of the sources that are ready reach the acceptance point (R88, R112). -/

namespace Sys2Proof.Machine

/-- UPDATE_ACCEPTANCE (R88, R90, R110, R112): one round of the Update Arbiter over the sources whose head is an UPDATE
record that is not parked, and the further rounds that its rejections bring within the moment. -/
def execUpdateAcceptance (s : State) : Out :=
  takeStep s fun s => .next (s.offers (s.ready .lane) (s.ready .host))

end Sys2Proof.Machine
end

