-- ==== Sys2Proof/Machine/Dispatch.lean ====
section
/-! DEFINITION. One arm per command of the part: its effect on everything but the queue of waiting commands. -/

namespace Sys2Proof.Machine

def exec (i : Instr) (s : State) : Host.Outcome State Fault Refusal :=
  match i with
  | .sselNFall sckHigh => Sys2Proof.Machine.execSselNFall sckHigh s
  | .status crc => Sys2Proof.Machine.execStatus crc s
  | .regRead index crc => Sys2Proof.Machine.execRegRead index crc s
  | .regWrite index value crc => Sys2Proof.Machine.execRegWrite index value crc s
  | .postUpdates records crc => Sys2Proof.Machine.execPostUpdates records crc s
  | .submit ticket kind params crc => Sys2Proof.Machine.execSubmit ticket kind params crc s
  | .takeCompletion crc => Sys2Proof.Machine.execTakeCompletion crc s
  | .takeReadout m crc => Sys2Proof.Machine.execTakeReadout m crc s
  | .takeEvent crc => Sys2Proof.Machine.execTakeEvent crc s
  | .wake crc => Sys2Proof.Machine.execWake crc s
  | .softReset crc => Sys2Proof.Machine.execSoftReset crc s
  | .earlyEnd opcode => Sys2Proof.Machine.execEarlyEnd opcode s
  | .sink cause => Sys2Proof.Machine.execSink cause s
  | .trimUp value crc => Sys2Proof.Machine.execTrimUp value crc s
  | .trimDown value crc => Sys2Proof.Machine.execTrimDown value crc s
  | .laneReset value crc => Sys2Proof.Machine.execLaneReset value crc s
  | .laneEnable value crc => Sys2Proof.Machine.execLaneEnable value crc s
  | .alertClear value crc => Sys2Proof.Machine.execAlertClear value crc s
  | .eventStatus value crc => Sys2Proof.Machine.execEventStatus value crc s
  | .statisticsCounterClear counter value crc => Sys2Proof.Machine.execStatisticsCounterClear counter value crc s
  | .regionStatus n value crc => Sys2Proof.Machine.execRegionStatus n value crc s
  | .clearCount n value crc => Sys2Proof.Machine.execClearCount n value crc s
  | .eccInject value crc => Sys2Proof.Machine.execEccInject value crc s
  | .define => Sys2Proof.Machine.execDefine s
  | .init => Sys2Proof.Machine.execInit s
  | .adopt => Sys2Proof.Machine.execAdopt s
  | .retire => Sys2Proof.Machine.execRetire s
  | .readBin => Sys2Proof.Machine.execReadBin s
  | .writeBin => Sys2Proof.Machine.execWriteBin s
  | .sweep => Sys2Proof.Machine.execSweep s
  | .cancelSweep => Sys2Proof.Machine.execCancelSweep s
  | .fence => Sys2Proof.Machine.execFence s
  | .retain => Sys2Proof.Machine.execRetain s
  | .updateAcceptance => Sys2Proof.Machine.execUpdateAcceptance s
  | .markerRegistration => Sys2Proof.Machine.execMarkerRegistration s
  | .commit => Sys2Proof.Machine.execCommit s
  | .commitCompletion => Sys2Proof.Machine.execCommitCompletion s
  | .binRead => Sys2Proof.Machine.execBinRead s
  | .binReadCompletion => Sys2Proof.Machine.execBinReadCompletion s
  | .binWrite => Sys2Proof.Machine.execBinWrite s
  | .binWriteCompletion => Sys2Proof.Machine.execBinWriteCompletion s
  | .sweepStep => Sys2Proof.Machine.execSweepStep s
  | .sweepStepCompletion => Sys2Proof.Machine.execSweepStepCompletion s
  | .terminalRecord => Sys2Proof.Machine.execTerminalRecord s
  | .initStep => Sys2Proof.Machine.execInitStep s
  | .initStepCompletion => Sys2Proof.Machine.execInitStepCompletion s
  | .refresh => Sys2Proof.Machine.execRefresh s
  | .refreshCompletion => Sys2Proof.Machine.execRefreshCompletion s
  | .poisonFill => Sys2Proof.Machine.execPoisonFill s
  | .poisonFillCompletion => Sys2Proof.Machine.execPoisonFillCompletion s
  | .completionPost => Sys2Proof.Machine.execCompletionPost s
  | .dataFrame samples => Sys2Proof.Machine.execDataFrame samples s
  | .trainingFrame samples => Sys2Proof.Machine.execTrainingFrame samples s
  | .returnMessage => Sys2Proof.Machine.execReturnMessage s
  | .timebaseTick => Sys2Proof.Machine.execTimebaseTick s
  | .lingerTick => Sys2Proof.Machine.execLingerTick s
  | .refreshDue => Sys2Proof.Machine.execRefreshDue s
  | .seekRetrainRepeat => Sys2Proof.Machine.execSeekRetrainRepeat s
  | .trainTimeout => Sys2Proof.Machine.execTrainTimeout s
  | .laneStall => Sys2Proof.Machine.execLaneStall s
  | .powerOnReset => Sys2Proof.Machine.execPowerOnReset s
  | .pinReset => Sys2Proof.Machine.execPinReset s
  | .resetRelease => Sys2Proof.Machine.execResetRelease s
  | .endOfInitialisation => Sys2Proof.Machine.execEndOfInitialisation s
  | .enterRetain => Sys2Proof.Machine.execEnterRetain s
  | .reservedRecord => Sys2Proof.Machine.execReservedRecord s
  | .sweepStart => Sys2Proof.Machine.execSweepStart s
  | .cleanEnd => Sys2Proof.Machine.execCleanEnd s
  | .sinkEnd => Sys2Proof.Machine.execSinkEnd s
  | .ignoredLowPeriod => Sys2Proof.Machine.execIgnoredLowPeriod s
  | .padRecord => Sys2Proof.Machine.execPadRecord s

end Sys2Proof.Machine
end

