-- ==== Sys2Proof/WellFormed.lean ====
section
/-! DEFINITION. Which commands can be spelled on the part's pins: the checks that the shape of the operands
must meet for the command to be the event its row names. -/

namespace Sys2Proof

/-- The ten assigned opcode bytes (R10). -/
def assignedOpcodes : List Byte :=
  [0x05#8, 0x10#8, 0x11#8, 0x20#8, 0x30#8, 0x40#8, 0x41#8, 0x42#8, 0x50#8, 0x5A#8]

/-- A count byte that POST_UPDATES may carry, 1 to 4 (R17, R23). -/
def goodCount (n : Nat) : Bool := 1 ≤ n && n ≤ 4

/-- The ACTION field of a LANE_CONTROL value, bits 17 to 16 (R174). -/
def laneAction (value : Word) : BitVec 2 := value.extractLsb' 16 2

/-- The CLEAR_COUNT bit of a REGION_STATUS value (R92). -/
def clearCountBit (value : Word) : Bool := value.getLsbD 8

/-- The command is spelled as its row names it: a POST_UPDATES has 1 to 4 records (R17), a SINK has a cause
that leads to SINK (R17), a LANE_CONTROL row has its own ACTION (R174), a REGION_STATUS row its own
CLEAR_COUNT (R92), and a frame row brings at least one sample (R51). -/
def Instr.wellFormed : Instr → Bool
  | .postUpdates records _ => goodCount records.length
  | .sink (.badOpcode byte) => !assignedOpcodes.contains byte
  | .sink (.badCount count) => !goodCount count.toNat
  | .trimUp value _ => laneAction value = 1#2
  | .trimDown value _ => laneAction value = 2#2
  | .laneReset value _ => laneAction value = 3#2
  | .laneEnable value _ => laneAction value = 0#2
  | .regionStatus _ value _ => !clearCountBit value
  | .clearCount _ value _ => clearCountBit value
  | .dataFrame samples => !samples.isEmpty
  | .trainingFrame samples => !samples.isEmpty
  | .sselNFall _ | .status _ | .regRead _ _ | .regWrite _ _ _ | .submit _ _ _ _ | .takeCompletion _
  | .takeReadout _ _ | .takeEvent _ | .wake _ | .softReset _ | .earlyEnd _ | .alertClear _ _
  | .eventStatus _ _ | .statisticsCounterClear _ _ _ | .eccInject _ _ | .define | .init | .adopt
  | .retire | .readBin | .writeBin | .sweep | .cancelSweep | .fence | .retain | .updateAcceptance
  | .markerRegistration | .commit | .commitCompletion | .binRead | .binReadCompletion | .binWrite
  | .binWriteCompletion | .sweepStep | .sweepStepCompletion | .terminalRecord | .initStep
  | .initStepCompletion | .refresh | .refreshCompletion | .poisonFill | .poisonFillCompletion
  | .completionPost | .returnMessage | .timebaseTick | .lingerTick | .refreshDue
  | .seekRetrainRepeat | .trainTimeout | .laneStall | .powerOnReset | .pinReset | .resetRelease
  | .endOfInitialisation | .enterRetain | .reservedRecord | .sweepStart | .cleanEnd | .sinkEnd
  | .ignoredLowPeriod | .padRecord => true

end Sys2Proof
end

