-- ==== Sys2Proof/Safety.lean ====
section
/-! DEFINITION. What a safe state of the part is, in the terms the statements use: no queue over its size, the array's
words in canonical form, the merge list in the order of R109, partials in the bounds of R106, and every region, entry,
sweep and fill inside the array. -/

namespace Sys2Proof.Machine

/-- No reset is in force and no step of an earlier moment is outstanding. -/
abbrev State.quiet (s : State) : Prop := s.power.held = false ∧ s.settled = true

/-- The decided command still fits when it commits (R15). -/
def State.commitFits (s : State) : Bool :=
  match s.host.tx with
  | .response _ { commit := .post records, .. } => s.hostFifo.length + records.length ≤ Config.hostFifoSlots
  | .response _ { commit := .submit _ _ _, .. } => s.commands.length < Config.commandSlots
  | _ => true

/-- No queue, list or count is over its size: Host Update FIFO (R24), Command Queue (R31), Completion Queue (R43), Lane
Receive Buffer (R57), return queue (R52), Merge Buffer (R109), Sweep Queue (R127), Readout FIFO with a slot kept for the
step in progress (R131, R139), Event Log (R158), refresh debt (R146); and a decided command still fits (R15). -/
abbrev State.withinCapacity (s : State) : Prop :=
  s.hostFifo.length ≤ Config.hostFifoSlots
    ∧ s.commands.length ≤ Config.commandSlots
    ∧ s.completions.length ≤ Config.completionSlots
    ∧ s.lane.buffer.length ≤ Config.laneSlots
    ∧ s.lane.returnQueue.length ≤ Config.returnSlots
    ∧ s.occupancy ≤ Config.mergeSlots
    ∧ s.sweeps.length ≤ Config.sweepSlots
    ∧ s.readout.length ≤ Config.readoutSlots
    ∧ (s.stepInProgress = true → s.readout.length < Config.readoutSlots)
    ∧ s.eventLog.length ≤ Config.eventSlots
    ∧ s.refreshTimer.debt ≤ Config.maxDebt
    ∧ s.commitFits = true

/-- The array's words are in canonical form (R153). -/
abbrev State.wordsCanonical (s : State) : Prop := s.array.words.wf = true

/-- The two invariants of R109: an entry that has a younger entry of its bin behind it is SEALED, so a bin has at most
one OPEN entry and that entry is its youngest. -/
abbrev State.mergeOrdered (s : State) : Prop :=
  s.entries.Pairwise fun e f => e.isOf f.region f.bin = true → e.isSealed = true

/-- The fields of an entry are in their ranges (R106, R108): 1 to 255 merges, SEALED at 255, a partial that is the
combination of so many signed 32-bit values, AGE 0 to 15, and at least one source. -/
abbrev Entry.inRange (e : Entry) : Prop :=
  1 ≤ e.merges ∧ e.merges ≤ Config.mergeLimit ∧ (e.merges = Config.mergeLimit → e.isSealed = true)
    ∧ -(e.merges * 2 ^ 31) ≤ e.part ∧ e.part ≤ e.merges * 2 ^ 31
    ∧ e.age ≤ Config.maxAge ∧ (e.fromLane || e.fromHost) = true

/-- Every entry present is in range. -/
abbrev State.entriesInRange (s : State) : Prop := ∀ e ∈ s.present, e.inRange

/-- Every region that is not EMPTY starts at a multiple of 8 and ends inside the array (R77, R81), and no two of them
share a word (R82). -/
abbrev State.regionsPlaced (s : State) : Prop :=
  (∀ r : RegionIx, (s.region r).state ≠ .empty →
      (s.region r).desc.base.toNat % 8 = 0 ∧ (s.region r).desc.endWord ≤ Config.arrayWords)
    ∧ ∀ r q : RegionIx, r ≠ q → (s.region r).state ≠ .empty → (s.region q).state ≠ .empty →
        (s.region r).desc.overlaps (s.region q).desc = false

/-- Every entry of the list is of a LIVE region that contains its bin and has its operator (R89, R95). -/
abbrev State.entriesLive (s : State) : Prop :=
  ∀ e ∈ s.entries, (s.region e.region).state = .live ∧ e.bin ≤ (s.region e.region).desc.binsMinus1
    ∧ e.operator = (s.region e.region).desc.operator

/-- Every sweep of the Sweep Queue is of a LIVE region that contains its LAST (R128, R130). -/
abbrev State.sweepsLive (s : State) : Prop :=
  ∀ w ∈ s.sweeps, (s.region w.region).state = .live ∧ w.last ≤ (s.region w.region).desc.binsMinus1

/-- A fill is of an INITIALIZING region and requests one of its bins (R83). -/
def State.fillPlaced (s : State) : Bool :=
  match s.regionController with
  | .filling _ r b => (s.region r).state = .initializing && b ≤ (s.region r).desc.binsMinus1.toNat
  | .idle | .awaiting _ | .posting _ _ => true

/-- All that an array operation can be granted on lies inside the array. -/
abbrev State.placed (s : State) : Prop :=
  s.regionsPlaced ∧ s.entriesLive ∧ s.sweepsLive ∧ s.fillPlaced = true

/-- The same readings of every word of the array. -/
def sameWords (s t : State) : Prop := ∀ a : Nat, t.array.words.read a = s.array.words.read a

/-- The command is a reset or the release of one (R165). -/
def isReset : Instr → Bool
  | .powerOnReset | .pinReset | .resetRelease => true
  | _ => false

/-- The command is the row of a step that falls at the moment of an earlier event (R2, R57, R122, R130, R136, R165). -/
def isOutstanding : Instr → Bool
  | .lingerTick | .refreshDue | .seekRetrainRepeat | .trainTimeout | .laneStall | .sweepStart
  | .endOfInitialisation | .padRecord | .reservedRecord | .markerRegistration | .terminalRecord => true
  | _ => false

/-- The queued kind that a dispatch row dispatches (R34). -/
def dispatchedKind : Instr → Option CommandKind
  | .define => some .define
  | .init => some .init
  | .adopt => some .adopt
  | .retire => some .retire
  | .readBin => some .readBin
  | .writeBin => some .writeBin
  | .sweep => some .sweep
  | .cancelSweep => some .cancelSweep
  | .fence => some .fence
  | .retain => some .retain
  | _ => none

/-- The request that a command puts on SDI: its opcode, its body and its CRC byte (R10, R11); none for a command that is
no whole request, and for a POST_UPDATES whose count byte leads to SINK (R17). -/
def requestOf : Instr → Option (Opcode × List Byte × Byte)
  | .status crc => some (.status, [], crc)
  | .regRead index crc => some (.regRead, [index], crc)
  | .regWrite index value crc => some (.regWrite, index :: wordBytes value, crc)
  | .postUpdates records crc => if goodCount records.length then some (.postUpdates, postBody records, crc) else none
  | .submit ticket kind params crc => some (.submit, ticket :: kind :: paramBytes params, crc)
  | .takeCompletion crc => some (.takeCompletion, [], crc)
  | .takeReadout m crc => some (.takeReadout, [m], crc)
  | .takeEvent crc => some (.takeEvent, [], crc)
  | .wake crc => some (.wake, [], crc)
  | .softReset crc => some (.softReset, [], crc)
  | .trimUp value crc => some (.regWrite, 0x08#8 :: wordBytes (withAction 1#2 value), crc)
  | .trimDown value crc => some (.regWrite, 0x08#8 :: wordBytes (withAction 2#2 value), crc)
  | .laneReset value crc => some (.regWrite, 0x08#8 :: wordBytes (withAction 3#2 value), crc)
  | .laneEnable value crc => some (.regWrite, 0x08#8 :: wordBytes (withAction 0#2 value), crc)
  | .alertClear value crc => some (.regWrite, 0x12#8 :: wordBytes value, crc)
  | .eventStatus value crc => some (.regWrite, 0x13#8 :: wordBytes value, crc)
  | .statisticsCounterClear c value crc => some (.regWrite, statIndex c :: wordBytes value, crc)
  | .regionStatus n value crc =>
    some (.regWrite, regionStatusIndex n :: wordBytes (withClearCount false value), crc)
  | .clearCount n value crc =>
    some (.regWrite, regionStatusIndex n :: wordBytes (withClearCount true value), crc)
  | .eccInject value crc => some (.regWrite, 0x1E#8 :: wordBytes value, crc)
  | _ => none

/-- The bits that a request puts on SDI, in the order in which they travel: opcode, body and CRC byte, every byte most
significant bit first (R1, R10, R11). -/
def sdiBits (c : Instr) : Option (List Bool) :=
  (requestOf c).map fun q => bytesBits (opcodeByte q.1 :: q.2.1 ++ [q.2.2])

/-- The port waits for a request and the command's CRC byte is right (R7, R11): nothing but the power state and the
command's own checks stands between the request and its acceptance. -/
abbrev State.receives (s : State) (c : Instr) : Prop :=
  s.quiet ∧ s.host.tx = .opcode
    ∧ ∃ q ∈ requestOf c, crc8 (opcodeByte q.1 :: q.2.1) = q.2.2

/-- The power state admits REG_WRITE (R14). -/
abbrev State.writable (s : State) : Prop := s.power.state = .run ∨ s.power.state = .quiescing

/-- The state with the port at a decided response (R13). -/
def State.decided (s : State) (op : Opcode) (d : Decision) : State :=
  { s with host := { s.host with tx := .response op d } }

/-- The port after a clean end that leaves no error and no arm (R12, R30). -/
def State.endedClean (s : State) : State := s.endTransaction false false

/-- The byte shows the eight conditions of the status byte as they stand: RDY, ALRT, CPL, RDO, CQF, HUF, ERR and
RET (R9). -/
abbrev State.statusBits (s : State) (b : Byte) : Prop :=
  (b.getLsbD 7 = true ↔ s.power.state ≠ .init)
    ∧ (b.getLsbD 6 = true ↔ ∃ k : Fin 12, (alertRaw s).getLsbD k = true ∧ s.alerts.enable.getLsbD k = true)
    ∧ (b.getLsbD 5 = true ↔ 1 ≤ s.completions.length)
    ∧ (b.getLsbD 4 = true ↔ 1 ≤ s.readout.length)
    ∧ (b.getLsbD 3 = true ↔ 8 ≤ s.commands.length)
    ∧ (b.getLsbD 2 = true ↔ 13 ≤ s.hostFifo.length)
    ∧ (b.getLsbD 1 = true ↔ s.host.prevOutcome = true)
    ∧ (b.getLsbD 0 = true ↔ s.power.state = .retain ∨ s.power.state = .quiescing)

/-- The clean end that follows a decided response is taken at once: the request and its clean end together. -/
abbrev State.carriesOut (s : State) (c : Instr) (op : Opcode) (d : Decision) (u : State) : Prop :=
  exec c s = .next (s.decided op d) ∧ exec .cleanEnd (s.decided op d) = .next u

/-- Everything that R35 asks of the head command `c`, of the given kind, before it is dispatched, with `rest` behind it:
its mark is 0 (R33), its unit is ready (R36), no barrier is in progress (R39), and a barrier finds every earlier command
settled (R38). -/
abbrev State.dispatches (s : State) (kind : CommandKind) (c : QueuedCommand) (rest : List QueuedCommand) : Prop :=
  s.commands = c :: rest ∧ c.kind = kind ∧ c.mark = 0 ∧ s.fence = none ∧ s.retain = .none
    ∧ (kind ∈ [CommandKind.define, .init, .adopt, .retire] → s.regionController = .idle)
    ∧ (kind ∈ [CommandKind.readBin, .writeBin] → s.binUnit = .idle)
    ∧ (kind ∈ [CommandKind.sweep, .cancelSweep] → s.intake = [])
    ∧ (kind ∈ [CommandKind.fence, .retain] →
        s.binUnit = .idle ∧ s.intake = [] ∧ (∀ a, s.regionController ≠ .awaiting a)
          ∧ ∀ a, s.regionController ≠ .posting a false)

/-- The row completes the reading operation in progress, on the counter `c` (R148): a COMMIT, a BIN_READ, or a step of
the head sweep in its mode. -/
abbrev State.completesReading (s : State) (row : Instr) (c : CounterOp) (k : ReadKind) : Prop :=
  (row = .commitCompletion ∧ k = .commit ∧ s.array.op = some (.commit c))
    ∨ (row = .binReadCompletion ∧ k = .binRead ∧ ∃ t : Ticket, s.array.op = some (.binRead t c))
    ∨ (row = .sweepStepCompletion ∧ s.array.op = some (.sweepStep c)
        ∧ ∃ w rest, s.sweeps = w :: rest ∧ k = if w.isDrain then .drain else .snapshot)

/-- The head sweep is active, consistent and of the region: one that pins entries of it (R118, R129). -/
abbrev State.sweptConsistently (s : State) (w : Sweep) (r : RegionIx) : Prop :=
  (∃ rest, s.sweeps = w :: rest) ∧ (w.state = .running ∨ w.state = .stalled ∨ w.state = .closing)
    ∧ w.isConsistent = true ∧ w.region = r

/-- R118: the entry has POST set, and its bin lies in the range of the active consistent sweep of its region and is not
yet swept. -/
abbrev State.pins (s : State) (e : Entry) : Prop :=
  e.post = true ∧ ∃ w, s.sweptConsistently w e.region ∧ w.first ≤ e.bin ∧ e.bin ≤ w.last ∧ w.cursor ≤ e.bin.toNat

/-- R115: the entry is not pinned, and it is SEALED, or its AGE has reached LINGER_LIMIT, or the occupancy is above
MERGE_WATERMARK. -/
abbrev State.mayCommit (s : State) (e : Entry) : Prop :=
  ¬ s.pins e
    ∧ (e.isSealed = true ∨ s.mergeControl.lingerLimit.toNat ≤ e.age
      ∨ s.mergeControl.watermark.toNat < s.entries.length + s.withdrawn.length)

/-- What each member of the rotation requests the array for: a bin operation that waits (R119, R120), the next step of a
RUNNING head sweep with a free Readout FIFO slot (R131), an entry that may be committed (R117), the next bin of a fill
(R83). -/
abbrev State.wants (s : State) (m : Member) : Prop :=
  (m = .binAccess ∧ ((∃ t r b, s.binUnit = .read t r b) ∨ ∃ t r b v, s.binUnit = .write t r b v))
    ∨ (m = .sweep ∧ ∃ w rest, s.sweeps = w :: rest ∧ w.state = .running ∧ w.cursor ≤ w.last.toNat
        ∧ s.readout.length < 64)
    ∨ (m = .commit ∧ ∃ e ∈ s.entries, s.mayCommit e)
    ∨ (m = .init ∧ ∃ t r b, s.regionController = .filling t r b)

/-- The row completes the operation in progress (R144). -/
abbrev State.completes (s : State) (row : Instr) : Prop :=
  (row = .commitCompletion ∧ ∃ c, s.array.op = some (.commit c))
    ∨ (row = .binReadCompletion ∧ ∃ t c, s.array.op = some (.binRead t c))
    ∨ (row = .binWriteCompletion ∧ ∃ t c v, s.array.op = some (.binWrite t c v))
    ∨ (row = .sweepStepCompletion ∧ s.sweeps ≠ [] ∧ ∃ c, s.array.op = some (.sweepStep c))
    ∨ (row = .initStepCompletion ∧ ∃ c, s.array.op = some (.initStep c) ∧ c.withdrawn = [])
    ∨ (row = .refreshCompletion ∧ s.array.op = some .refresh)
    ∨ (row = .poisonFillCompletion ∧ ∃ r, s.array.op = some (.poisonFill r))

/-- The row brings the samples of one whole frame to a receiver whose last sample found LFRM low: one nibble with LFRM
high in each, the high nibble of a byte first, and the low sample that ends it (R1, R51). `w` is the state at the frame's
arrival, with the frame still to be judged: LRET has moved on by one bit with each edge (R52). -/
abbrev State.brings (s : State) (row : Instr) (f : Frame) (w : State) : Prop :=
  ∃ (nibbles : List (BitVec 4)) (last : BitVec 4) (samples : List LaneSample),
    nibbles ≠ []
      ∧ samples = nibbles.map (fun n => ({ lfrm := true, ld := n } : LaneSample)) ++ [{ lfrm := false, ld := last }]
      ∧ (row = .dataFrame samples ∨ row = .trainingFrame samples)
      ∧ s.lane.wire = .low
      ∧ f.oddSample = decide (nibbles.length % 2 = 1) ∧ f.bytes.length = nibbles.length / 2
      ∧ (∀ (k : Nat) (high low : BitVec 4), nibbles[2 * k]? = some high → nibbles[2 * k + 1]? = some low →
          f.bytes[k]? = some (high ++ low))
      ∧ w = { s with lane := { s.lane with lret := s.lane.lret.drop samples.length } }

/-- No record is parked (R111). -/
abbrev State.unparked (s : State) : Prop := s.lane.parked = false ∧ s.hostParked = false

/-- No record is parked and no region command waits for its action moment, so the end of an array operation re-offers
nothing and no region command acts in it (R80, R111). -/
abbrev State.undisturbed (s : State) : Prop := s.unparked ∧ ∀ c, s.regionController ≠ .awaiting c

end Sys2Proof.Machine
end

