-- ==== Sys2Proof/Certificates/Slice0/Obligations.lean ====
section
/-! DEFINITION. The statements about the GX-0816 that the provers settle. -/

open Sys2Proof Sys2Proof.Machine

/-! ### The queue of commands, and the frame of every step -/

/-- For every command and state, a step with the command at the front of the queue is `exec` of it on the state with the
queue's rest; with no command waiting the block idles. The queue and the idling are the model's own (log entries 8 and
2). -/
def Obligations.StepRunsFrontCommand : Prop :=
  (∀ (c : Instr) (rest : List Instr) (s : State),
      step { s with pending := c :: rest } = exec c { s with pending := rest })
    ∧ ∀ s : State, s.pending = [] → step s = .next s

/-- No command touches the queue of waiting commands. That queue is the model's own (DESIGN CHOICE, log entry 8): the
block of the spec has none, and nothing but the front of it is ever taken. -/
def Obligations.ExecKeepsTheQueue : Prop :=
  ∀ (c : Instr) (s t : State), exec c s = .next t → t.pending = s.pending

/-- The steps that fall at the moment of an earlier event come before any later command (R2, R57, R122, R130, R136,
R165; log entry 16): every command but the resets and those steps themselves does on any state what it does on the
state with the outstanding steps taken, and that state has none outstanding and its moment ended. A head record (PAD,
reserved TYPE, MARK with a slot free) or a terminal record that its own row takes is one that these steps would have
taken. While a reset is in force no event occurs (R165): only a reset or a release changes anything (log entry 1). -/
def Obligations.OutstandingStepsComeFirst : Prop :=
  (∀ (c : Instr) (s : State), isReset c = false →
    (isOutstanding c = false → s.power.held = false → exec c s = exec c s.settle ∧ s.settle.quiet)
      ∧ (s.power.held = true → exec c s = .next s))
    ∧ ∀ s t : State, s.power.held = false →
        (exec .padRecord s = .next t ∨ exec .reservedRecord s = .next t
          ∨ exec .markerRegistration s = .next t ∨ exec .terminalRecord s = .next t) →
        t.settle = s.settle

/-! ### Host Port -/

/-- SSEL_N_FALL starts a transaction from IDLE, fixes its clock mode from the level of SCK (R4) and samples the eight
conditions of the status byte (R9); nothing else changes. -/
def Obligations.SelectSamplesTheStatusByte : Prop :=
  ∀ (sckHigh : Bool) (s : State), s.quiet → s.host.tx = .idle →
    ∃ b : Byte,
      exec (.sselNFall sckHigh) s
          = .next { s with
              host := { s.host with
                tx := .opcode, mode := if sckHigh then .mode3 else .mode0, statusByte := b } }
        ∧ s.statusBits b

/-- R18: a request whose CRC byte is wrong receives BAD_CRC with an empty body and a right CRC, logs HOST_FRAMING with
reason 2 and the opcode, and sets HOST_ERROR, in every power state and whatever the request's fields; at its end,
clean or early, the previous outcome becomes 1, the arm is disarmed, and nothing else changes or is reported (the count
`moment`, the model's own, begins anew with every event: log entry 16). -/
def Obligations.BadCrcDiscardsTheRequest : Prop :=
  ∀ (c : Instr) (op o : Opcode) (body : List Byte) (crc : Byte) (s : State), s.quiet → s.host.tx = .opcode →
    requestOf c = some (op, body, crc) → crc8 (opcodeByte op :: body) ≠ crc →
    ∃ t, t = ((s.decided op { code := .badCrc, body := [], commit := .nothing }).log
            (s.event .hostFraming .host none (opcodeByte op ++ 2#8))).raise .hostError
      ∧ exec c s = .next t
      ∧ exec .cleanEnd t = .next ({ t with moment := 0 }.endTransaction true false)
      ∧ exec (.earlyEnd o) t = .next ({ t with moment := 0 }.endTransaction true false)
      ∧ sdo t.host 0 = some 0x20#8 ∧ sdo t.host 1 = some (crc8 [0x20#8])

/-- The table of R14: with a right CRC byte, NOT_READY in INIT to every opcode but STATUS; STATE in QUIESCING to
POST_UPDATES and WAKE, and in RETAIN to REG_WRITE, POST_UPDATES, SUBMIT and SOFT_RESET. The refused request changes
nothing but the port, and at its clean end only the previous outcome, which becomes 1, and the arm (R12, R30). -/
def Obligations.PowerStateRefusesRequests : Prop :=
  ∀ (c : Instr) (op : Opcode) (body : List Byte) (crc : Byte) (code : ResponseCode) (s : State),
    s.quiet → s.host.tx = .opcode → requestOf c = some (op, body, crc) → crc8 (opcodeByte op :: body) = crc →
    ((s.power.state = .init ∧ op ≠ .status ∧ code = .notReady)
      ∨ (s.power.state = .quiescing ∧ (op = .postUpdates ∨ op = .wake) ∧ code = .state)
      ∨ (s.power.state = .retain ∧ (op = .regWrite ∨ op = .postUpdates ∨ op = .submit ∨ op = .softReset)
          ∧ code = .state)) →
    exec c s = .next (s.decided op { code, body := [], commit := .nothing })
      ∧ exec .cleanEnd (s.decided op { code, body := [], commit := .nothing })
          = .next (s.endTransaction true false)

/-- R20: STATUS answers in every power state with the status byte as it stands, the four occupancies and the power state,
and commits nothing. -/
def Obligations.StatusReportsOccupancies : Prop :=
  ∀ (crc : Byte) (s : State), s.receives (.status crc) →
    ∃ b : Byte, s.statusBits b ∧ s.carriesOut (.status crc) .status
      { code := .accept
        body := [b, BitVec.ofNat 8 s.commands.length, BitVec.ofNat 8 s.completions.length,
          BitVec.ofNat 8 s.readout.length, BitVec.ofNat 8 s.hostFifo.length,
          match s.power.state with
          | .init => 0#8
          | .run => 1#8
          | .quiescing => 2#8
          | .retain => 3#8]
        commit := .nothing }
      s.endedClean

/-- REG_READ, out of INIT, answers an assigned index with the register's value, most significant byte first, and has no
side effect; an unassigned index receives BAD_FIELD (R21). The indices are those of section 11.1: first which register
each index names, then which name none. -/
def Obligations.RegReadHasNoSideEffect : Prop :=
  (∀ (index : Byte) (r : Register), registerOf index = some r ↔
      index.toNat = (match r with
        | .deviceId => 0x00 | .powerStatus => 0x01 | .timebase => 0x02 | .mergeControl => 0x03
        | .refreshControl => 0x04 | .readoutControl => 0x05 | .holdLimit => 0x06 | .tickCount => 0x07
        | .laneControl => 0x08 | .laneStatus => 0x09
        | .counter .goodFrames => 0x0A | .counter .crcErrors => 0x0B | .counter .formatErrors => 0x0C
        | .counter .seqGaps => 0x0D | .counter .overruns => 0x0E | .counter .retrains => 0x0F
        | .alertRaw => 0x10 | .alertEnable => 0x11 | .alertClear => 0x12 | .eventStatus => 0x13
        | .arrayStatus => 0x18 | .counter .rowHits => 0x19 | .counter .rowMisses => 0x1A
        | .counter .ceCount => 0x1B | .counter .ueCount => 0x1C | .counter .refreshOverruns => 0x1D
        | .eccInject => 0x1E
        | .regionStatus n => 0x20 + n.toNat | .regionDescA n => 0x30 + n.toNat | .regionDescB n => 0x40 + n.toNat
        | .mergeStatus => 0x50 | .queueStatus => 0x51))
  ∧ ∀ (index crc : Byte) (s : State), s.receives (.regRead index crc) → s.power.state ≠ .init →
    (∀ r, registerOf index = some r →
        s.carriesOut (.regRead index crc) .regRead
          { code := .accept, body := wordBytes (readRegister s r), commit := .nothing } s.endedClean)
      ∧ (registerOf index = none →
          s.carriesOut (.regRead index crc) .regRead { code := .badField, body := [], commit := .nothing }
            (s.endTransaction true false))
      ∧ (registerOf index = none ↔
          (0x14 ≤ index.toNat ∧ index.toNat ≤ 0x17) ∨ index.toNat = 0x1F ∨ 0x52 ≤ index.toNat)

/-- R23: POST_UPDATES of one to four records, in RUN. If every record is an UPDATE and there is room, the records are
appended at the clean end, whenever it comes, in the order sent, whatever REGION, BIN, VALUE and the ignored bits
hold; with another TYPE the answer is BAD_FIELD, and without room for all of them FULL, and no record is taken. The
request body is the count of the records and then their bytes, which LockedFramesAreAccepted spells out. -/
def Obligations.PostUpdatesAppendsOrRefuses : Prop :=
  (∀ records : List UpdateRecord,
      postBody records = BitVec.ofNat 8 records.length :: records.flatMap updateRecordBytes)
  ∧ (∀ (op : Opcode) (posted : List HostRecord) (body : List Byte) (s : State), s.quiet →
      s.host.tx = .response op { code := .accept, body, commit := .post posted } →
      exec .cleanEnd s = .next { s with hostFifo := s.hostFifo ++ posted }.endedClean)
  ∧ ∀ (records : List UpdateRecord) (crc : Byte) (s : State), s.receives (.postUpdates records crc) →
    s.power.state = .run →
    ((∀ r ∈ records, r.type = .update) → s.hostFifo.length + records.length ≤ 16 →
        ∃ posted : List HostRecord,
          posted = records.map (fun r => { region := r.region, bin := r.bin, value := r.value })
          ∧ s.carriesOut (.postUpdates records crc) .postUpdates
              { code := .accept, body := [], commit := .post posted }
              { s with hostFifo := s.hostFifo ++ posted }.endedClean)
      ∧ ((∃ r ∈ records, r.type ≠ .update) →
          s.carriesOut (.postUpdates records crc) .postUpdates
            { code := .badField, body := [], commit := .nothing } (s.endTransaction true false))
      ∧ ((∀ r ∈ records, r.type = .update) → 16 < s.hostFifo.length + records.length →
          s.carriesOut (.postUpdates records crc) .postUpdates
            { code := .full, body := [], commit := .nothing } (s.endTransaction true false))

/-- R25: SUBMIT, in RUN and in QUIESCING, appends the command with its ticket, kind, parameters and host mark, the number
of records in the Host Update FIFO at the clean end, whenever it comes; an unknown kind or a reserved encoding receives
BAD_FIELD, and a full queue FULL (R31, R34). The kind bytes, the reserved encodings and the places of the parameters
among the twelve parameter bytes b 0 to b 11, in the order sent, are those of the table of R34. -/
def Obligations.SubmitQueuesTheCommand : Prop :=
  (∀ (op : Opcode) (t : Ticket) (k : CommandKind) (p : BitVec 96) (body : List Byte) (s : State), s.quiet →
      s.host.tx = .response op { code := .accept, body, commit := .submit t k p } →
      exec .cleanEnd s = .next
        { s with
          commands := s.commands ++
            [({ ticket := t, kind := k, params := p, mark := s.hostFifo.length } : QueuedCommand)]
          }.endedClean)
  ∧ (∀ (p : BitVec 96) (b : Nat → Byte), paramBytes p = (List.range 12).map b →
      (∀ i < 12, paramByte p i = b i)
        ∧ paramRegion p = (b 0).extractLsb' 0 4
        ∧ paramHalf p 1 = b 1 ++ b 2 ∧ paramHalf p 3 = b 3 ++ b 4
        ∧ paramValue p = b 3 ++ b 4 ++ b 5 ++ b 6 ++ b 7 ++ b 8 ++ b 9 ++ b 10
        ∧ rawDescriptorOf p
          = { base := b 1 ++ b 2 ++ b 3, binsMinus1 := b 4 ++ b 5, format := b 6, operator := b 7, decayShift := b 8
              rounding := b 9, inputShift := b 10, permits := b 11 })
  ∧ ∀ (ticket kind : Byte) (params : BitVec 96) (crc : Byte) (s : State) (b : Nat → Byte)
      (known good : CommandKind → Prop),
    s.receives (.submit ticket kind params crc) → s.writable → paramBytes params = (List.range 12).map b →
    (∀ k, known k ↔ kind.toNat = (match k with
      | .define => 0x01 | .init => 0x02 | .adopt => 0x03 | .retire => 0x04 | .readBin => 0x10 | .writeBin => 0x11
      | .sweep => 0x20 | .cancelSweep => 0x21 | .fence => 0x30 | .retain => 0x31)) →
    (∀ k, good k ↔ (match k with
      | .define | .init | .adopt | .retire | .readBin | .writeBin | .cancelSweep => (b 0).toNat ≤ 15
      | .sweep => (b 0).toNat ≤ 15 ∧ (b 5).toNat ≤ 1 ∧ (b 6).toNat ≤ 1 ∧ (b 7).toNat ≤ 15
      | .fence => (b 0).toNat ≤ 1
      | .retain => True)) →
    (∀ k, known k → good k → s.commands.length < 8 →
        s.carriesOut (.submit ticket kind params crc) .submit
          { code := .accept, body := [], commit := .submit (ticket.extractLsb' 0 4) k params }
          { s with
            commands := s.commands ++
              [({ ticket := ticket.extractLsb' 0 4, kind := k, params := params,
                  mark := s.hostFifo.length } : QueuedCommand)]
            }.endedClean)
      ∧ ((∀ k, known k → ¬ good k) →
          s.carriesOut (.submit ticket kind params crc) .submit
            { code := .badField, body := [], commit := .nothing } (s.endTransaction true false))
      ∧ (∀ k, known k → good k → 8 ≤ s.commands.length →
          s.carriesOut (.submit ticket kind params crc) .submit
            { code := .full, body := [], commit := .nothing } (s.endTransaction true false))

/-- The three TAKE commands deliver the head records, oldest first, and remove at the clean end, whenever it comes,
exactly as many as were delivered (R26, R27, R28); with nothing to take the answer is EMPTY, which is no error (R12).
A TAKE_READOUT that frees a slot lets a STALLED head sweep return to RUNNING (R131), and one that asks for 0 or more
than 8 receives BAD_FIELD. A completion record, a readout record and an event record are laid out byte by byte as R44
with the codes of R45, R137, and R160 with the codes of R161 say. -/
def Obligations.TakesDeliverAndRemove : Prop :=
  (∀ c : Completion, ∃ b0 b1 : Byte,
      completionBytes c
          = b0 :: b1 :: c.data.flatMap (fun w =>
            [w.extractLsb' 24 8, w.extractLsb' 16 8, w.extractLsb' 8 8, w.extractLsb' 0 8])
        ∧ (b0.getLsbD 7 = true ↔ c.source = .lane) ∧ b0.getLsbD 6 = c.poisoned
        ∧ (c.data.length ≤ 2 → (b0.extractLsb' 4 2).toNat = c.data.length) ∧ b0.extractLsb' 0 4 = c.ticket
        ∧ b1.toNat = (match c.result with
          | .ok => 0x00 | .state => 0x01 | .descriptor => 0x02 | .range => 0x03 | .overlap => 0x04 | .binRange => 0x05
          | .busy => 0x06 | .full => 0x07 | .notFound => 0x08 | .aborted => 0x09 | .refused => 0x0A))
  ∧ (∀ r : ReadoutRecord, ∃ b1 : Byte,
      readoutBytes r
          = r.seq :: b1 :: r.bin.extractLsb' 8 8 :: r.bin.extractLsb' 0 8 ::
            (if r.truncated then []
              else if r.wide then
                [r.value.extractLsb' 56 8, r.value.extractLsb' 48 8, r.value.extractLsb' 40 8, r.value.extractLsb' 32 8,
                  r.value.extractLsb' 24 8, r.value.extractLsb' 16 8, r.value.extractLsb' 8 8, r.value.extractLsb' 0 8]
              else
                [r.value.extractLsb' 24 8, r.value.extractLsb' 16 8, r.value.extractLsb' 8 8, r.value.extractLsb' 0 8])
        ∧ b1.extractLsb' 4 4 = r.tag ∧ b1.getLsbD 3 = r.poisoned ∧ b1.getLsbD 2 = r.last
        ∧ b1.getLsbD 1 = r.truncated ∧ b1.getLsbD 0 = r.wide)
  ∧ (∀ e : Event, ∃ (code b1 region : Byte) (bin : BinIx),
      eventBytes e
          = [code, b1, region, bin.extractLsb' 8 8, bin.extractLsb' 0 8, e.detail.extractLsb' 8 8,
            e.detail.extractLsb' 0 8, e.stamp.extractLsb' 8 8, e.stamp.extractLsb' 0 8]
        ∧ code.toNat = (match e.code with
          | .initialized => 0x01 | .softReset => 0x02 | .hostFraming => 0x10 | .laneCrc => 0x20 | .laneFormat => 0x21
          | .laneSeq => 0x22 | .laneOverrun => 0x23 | .laneRetrain => 0x24 | .laneFault => 0x25 | .laneReset => 0x26
          | .laneStall => 0x27 | .updateReject => 0x30 | .saturated => 0x31 | .poisonHit => 0x32 | .corrected => 0x40
          | .uncorrectable => 0x41 | .refreshOverrun => 0x42)
        ∧ (b1.extractLsb' 5 3).toNat = (match e.source with
          | .host => 0 | .lane => 1 | .engine => 2 | .array => 3 | .power => 4)
        ∧ b1.extractLsb' 2 3 = 0#3
        ∧ (b1.getLsbD 1 = true ↔ e.place ≠ none) ∧ (b1.getLsbD 0 = true ↔ e.place ≠ none)
        ∧ (∀ r n, e.place = some (r, n) → region.toNat = r.toNat ∧ bin = n)
        ∧ (e.place = none → region = 0#8 ∧ bin = 0#16))
  ∧ (∀ (op : Opcode) (body : List Byte) (c : Commit) (s : State), s.quiet →
      s.host.tx = .response op { code := .accept, body, commit := c } →
      (c = .takeCompletion → exec .cleanEnd s = .next { s with completions := s.completions.drop 1 }.endedClean)
      ∧ (c = .takeEvent → exec .cleanEnd s = .next { s with eventLog := s.eventLog.drop 1 }.endedClean)
      ∧ ∀ n, c = .takeReadout n → (∀ w rest, s.sweeps = w :: rest → w.state ≠ .stalled) →
          exec .cleanEnd s = .next { s with readout := s.readout.drop n }.endedClean)
  ∧ ∀ (m crc : Byte) (s : State), s.power.state ≠ .init →
    (s.receives (.takeCompletion crc) →
        (∀ c rest, s.completions = c :: rest →
            s.carriesOut (.takeCompletion crc) .takeCompletion
              { code := .accept, body := completionBytes c, commit := .takeCompletion }
              { s with completions := rest }.endedClean)
        ∧ (s.completions = [] →
            s.carriesOut (.takeCompletion crc) .takeCompletion
              { code := .empty, body := [], commit := .nothing } s.endedClean))
      ∧ (s.receives (.takeEvent crc) →
          (∀ e rest, s.eventLog = e :: rest →
              s.carriesOut (.takeEvent crc) .takeEvent
                { code := .accept, body := eventBytes e, commit := .takeEvent }
                { s with eventLog := rest }.endedClean)
          ∧ (s.eventLog = [] →
              s.carriesOut (.takeEvent crc) .takeEvent
                { code := .empty, body := [], commit := .nothing } s.endedClean))
      ∧ (s.receives (.takeReadout m crc) →
          (∀ n, n = Nat.min m.toNat s.readout.length → 1 ≤ m.toNat → m.toNat ≤ 8 → s.readout ≠ [] →
              s.carriesOut (.takeReadout m crc) .takeReadout
                { code := .accept, body := BitVec.ofNat 8 n :: (s.readout.take n).flatMap readoutBytes,
                  commit := .takeReadout n }
                { s with
                  readout := s.readout.drop n
                  sweeps := match s.sweeps with
                    | w :: rest =>
                      (if w.state = SweepState.stalled ∧ (s.readout.drop n).length < 64 then
                        { w with state := .running } else w) :: rest
                    | [] => [] }.endedClean)
          ∧ (1 ≤ m.toNat → m.toNat ≤ 8 → s.readout = [] →
              s.carriesOut (.takeReadout m crc) .takeReadout
                { code := .empty, body := [], commit := .nothing } s.endedClean)
          ∧ ((m.toNat = 0 ∨ 8 < m.toNat) →
              s.carriesOut (.takeReadout m crc) .takeReadout
                { code := .badField, body := [], commit := .nothing } (s.endTransaction true false)))

/-- SOFT_RESET needs two clean transactions in a row (R30): the first, with the arm DISARMED, receives ARMED and at its
clean end arms the arm and nothing else; the second, with the arm ARMED, receives ACCEPT and executes a soft reset at
its clean end (R170): every path of work emptied, INITIALIZING regions DEFINED, the pointers, dividers and counts of
step 4 at their reset values, QUIESCING ended, the sticky causes cleared and then SOFT_RESET logged, the lane
restarted, a frame in progress abandoned (R51) and a message being sent left to complete (R52; log entry 19); the
configuration, the rest of the Region Table, the statistics, the refresh timer, the array's words and LOST kept. -/
def Obligations.SecondSoftResetExecutes : Prop :=
  ∀ (crc : Byte) (s : State), s.receives (.softReset crc) → s.writable →
    (s.host.armed = false →
        s.carriesOut (.softReset crc) .softReset { code := .armed, body := [], commit := .arm }
          (s.endTransaction false true))
      ∧ (s.host.armed = true →
          ∃ u, s.carriesOut (.softReset crc) .softReset { code := .accept, body := [], commit := .softReset } u
            ∧ u.hostFifo = [] ∧ u.commands = [] ∧ u.completions = [] ∧ u.entries = [] ∧ u.sweeps = []
            ∧ u.readout = [] ∧ u.intake = [] ∧ u.lane.buffer = [] ∧ u.regionController = .idle
            ∧ u.binUnit = .idle ∧ u.fence = none ∧ u.retain = .none ∧ u.markers = .free
            ∧ u.hostParked = false ∧ u.lane.parked = false
            ∧ u.array = { words := s.array.words, banks := Vector.replicate 8 none, op := none,
                          pointer := .binAccess, ecc := .none, eccRearmed := false,
                          selfRefresh := s.array.selfRefresh }
            ∧ (∀ r : RegionIx, u.region r =
                { s.region r with
                  state := if (s.region r).state = .initializing then .defined else (s.region r).state })
            ∧ u.turn = .lane ∧ u.lingerDivider = 0 ∧ u.readoutSeq = 0#8 ∧ u.timebase.count = 0#32
            ∧ u.timebase.tbDiv = s.timebase.tbDiv ∧ u.refreshTimer = s.refreshTimer
            ∧ u.power = { s.power with state := .run }
            ∧ u.alerts = { s.alerts with sticky := 0#12 }
            ∧ (s.eventLog.length < 8 → u.lost = s.lost ∧ u.eventLog = s.eventLog ++
                [{ code := .softReset, source := .host, place := none, detail := 0#16, stamp := 0#16 }])
            ∧ (8 ≤ s.eventLog.length → u.eventLog = s.eventLog ∧ u.lost = satInc s.lost)
            ∧ u.lane.state = (if s.laneControl.enable then .seek else .off)
            ∧ u.lane.returnQueue = (if s.laneControl.enable then [.retrain] else [])
            ∧ u.lane.errors = 0#4 ∧ u.lane.expectedSeq = 0#8 ∧ u.lane.trimInUse = s.lane.trimInUse
            ∧ u.lane.wire = (if s.laneControl.enable = true ∧ s.lane.wire = Wire.low then Wire.low else Wire.high)
            ∧ u.lane.lret = s.lane.lret
            ∧ u.laneControl = s.laneControl ∧ u.mergeControl = s.mergeControl
            ∧ u.readoutWatermark = s.readoutWatermark ∧ u.stats = s.stats
            ∧ u.host = { s.host with tx := .idle, prevOutcome := false, armed := false })

/-- An early end discards the transaction with none of its effects, whatever had been decided: only HOST_FRAMING with
reason 1 and the opcode, HOST_ERROR, the previous outcome and the arm change (R16); after a BAD_CRC nothing is
reported again (R18). In OPCODE the opcode is the row's operand (log entry 8). -/
def Obligations.EarlyEndDiscardsTheTransaction : Prop :=
  ∀ (op o : Opcode) (d : Decision) (s : State), s.quiet →
    (s.host.tx = .opcode → exec (.earlyEnd op) s = .next
        (((s.log (s.event .hostFraming .host none (opcodeByte op ++ 1#8))).raise .hostError).endTransaction
          true false))
      ∧ (s.host.tx = .request o → exec (.earlyEnd op) s = .next
          (((s.log (s.event .hostFraming .host none (opcodeByte o ++ 1#8))).raise .hostError).endTransaction
            true false))
      ∧ (s.host.tx = .response o d → d.code ≠ .badCrc → exec (.earlyEnd op) s = .next
          (((s.log (s.event .hostFraming .host none (opcodeByte o ++ 1#8))).raise .hostError).endTransaction
            true false))
      ∧ (s.host.tx = .response o d → d.code = .badCrc →
          exec (.earlyEnd op) s = .next (s.endTransaction true false))

/-- An opcode byte that is not assigned, or a POST_UPDATES count byte of 0 or above 4, sends the port to SINK, which
reports it at once with reason 3 or 4; at its end the previous outcome becomes 1 and the arm is disarmed, and nothing
else changes (R17). A low period of SSEL_N that completes no byte is no transaction: the port is IDLE again, with no
error, no event, and the previous outcome and the arm as they were (R5). -/
def Obligations.SinkAndShortLowPeriods : Prop :=
  ∀ (b : Byte) (s : State), s.quiet →
    (s.host.tx = .opcode → (∀ op, opcodeByte op ≠ b) →
        exec (.sink (.badOpcode b)) s = .next
          (({ s with host := { s.host with tx := .sink } }.log
            (s.event .hostFraming .host none (b ++ 3#8))).raise .hostError))
      ∧ (s.host.tx = .opcode → (b.toNat = 0 ∨ 4 < b.toNat) →
          exec (.sink (.badCount b)) s = .next
            (({ s with host := { s.host with tx := .sink } }.log
              (s.event .hostFraming .host none (0x20#8 ++ 4#8))).raise .hostError))
      ∧ (s.host.tx = .sink → exec .sinkEnd s = .next (s.endTransaction true false))
      ∧ (s.host.tx = .opcode →
          exec .ignoredLowPeriod s = .next { s with host := { s.host with tx := .idle } })

/-- What crosses the Host Port, and in which bit order. On SDO (R8): the status byte in OPCODE, 0x00 in REQUEST, 0xFF in
SINK, nothing in IDLE; in RESPONSE the code, the body and a right CRC over both (R11), in order, and then 0xFF. Every byte
travels most significant bit first, on SDO and on SDI, where a request is its opcode byte, its body and its CRC byte
(R1). The CRC starts at 0xFF; each byte is combined into the register, which is then shifted left eight times, with 0x07
combined in where the bit shifted out is 1 (R11). That nothing is driven in IDLE also while SSEL_N is low after a reset
(R5) is the model's choice (log entry 23). -/
def Obligations.ResponseIsSentWithItsCrc : Prop :=
  crc8 [] = 0xFF#8
  ∧ (∀ (bytes : List Byte) (b : Byte) (register : Nat → Byte), register 0 = crc8 bytes ^^^ b →
      (∀ k < 8, register (k + 1)
        = if (register k).getLsbD 7 then (register k <<< 1) ^^^ 0x07#8 else register k <<< 1) →
      crc8 (bytes ++ [b]) = register 8)
  ∧ (∀ (h : HostPort) (i : Nat),
    (h.tx = .opcode → sdo h i = some h.statusByte)
      ∧ (∀ op, h.tx = .request op → sdo h i = some 0x00#8)
      ∧ (h.tx = .sink → sdo h i = some 0xFF#8)
      ∧ (h.tx = .idle → sdo h i = none)
      ∧ (∀ op d, h.tx = .response op d →
          (i = 0 → sdo h i = some (responseByte d.code))
          ∧ (∀ k < d.body.length, i = k + 1 → sdo h i = d.body[k]?)
          ∧ (i = d.body.length + 1 → sdo h i = some (crc8 (responseByte d.code :: d.body)))
          ∧ (d.body.length + 1 < i → sdo h i = some 0xFF#8))
      ∧ ∀ j < 8, sdoBit h (8 * i + j) = (sdo h i).map fun b => b.getLsbD (7 - j))
    ∧ ∀ (c : Instr) (op : Opcode) (body : List Byte) (crc : Byte), requestOf c = some (op, body, crc) →
        ∃ bits, sdiBits c = some bits ∧ bits.length = 8 * (body.length + 2)
          ∧ ∀ (k j : Nat) (b : Byte), j < 8 → (opcodeByte op :: body ++ [crc])[k]? = some b →
              bits[8 * k + j]? = some (b.getLsbD (7 - j))

/-! ### Registers -/

/-- The registers show what they name, field by field, as sections 11.2 and 11.3 place the fields, with every queue within
its size (R175): the read-only and status registers, ALERT_ENABLE and ALERT_CLEAR, the statistics counters, and
ALERT_RAW with its three level causes (R43, R140, R158) and its nine sticky causes, each at its bit (R155). ALERT_N is
low exactly while a cause and its enable are both 1 (R157). A cause sets its own bit and no other; one cause of a
statistics counter adds one to it, and it stays at its greatest value (R3). -/
def Obligations.StatusRegistersShowTheirFields : Prop :=
  ∀ (s : State) (bits : Register → Nat → Nat → Nat) (n : RegionIx) (d : Descriptor), s.withinCapacity →
    (∀ r at_ w, bits r at_ w = ((readRegister s r).extractLsb' at_ w).toNat) → d = (s.region n).desc →
    (bits .deviceId 24 8 = 0x6D ∧ bits .deviceId 8 16 = 0x0816 ∧ bits .deviceId 0 8 = 0x01)
      ∧ bits .powerStatus 0 2 = (match s.power.state with | .init => 0 | .run => 1 | .quiescing => 2 | .retain => 3)
      ∧ bits .tickCount 0 32 = s.timebase.count.toNat
      ∧ (bits .laneStatus 0 3
            = (match s.lane.state with | .off => 0 | .seek => 1 | .train => 2 | .locked => 3 | .fault => 4)
          ∧ bits .laneStatus 4 4
            = (if s.lane.state = .train then s.lane.training.trim else s.lane.trimInUse).toNat
          ∧ bits .laneStatus 8 3 = s.lane.buffer.length ∧ bits .laneStatus 16 8 = s.lane.expectedSeq.toNat
          ∧ bits .laneStatus 24 4 = s.lane.errors.toNat)
      ∧ (bits .arrayStatus 0 3 = s.refreshTimer.debt
          ∧ bits .arrayStatus 8 4 = (s.array.banks.toList.filter Option.isSome).length)
      ∧ (bits .mergeStatus 0 5 = s.entries.length + s.withdrawn.length
          ∧ bits .mergeStatus 5 5 = (s.entries.filter fun e => !e.isSealed).length
          ∧ bits .mergeStatus 10 5 = (s.entries.filter fun e => e.isSealed).length
          ∧ (∀ pinned : Entry → Bool, (∀ e, pinned e = true ↔ s.pins e) →
              bits .mergeStatus 15 5 = (s.entries.filter pinned).length)
          ∧ (bits .mergeStatus 20 1 = 1 ↔ s.lane.parked = true) ∧ (bits .mergeStatus 21 1 = 1 ↔ s.hostParked = true)
          ∧ bits .mergeStatus 22 2
            = (if s.markers.slot0 = none then 0 else 1) + (if s.markers.slot1 = none then 0 else 1))
      ∧ (bits .queueStatus 0 4 = s.commands.length ∧ bits .queueStatus 4 4 = s.completions.length
          ∧ bits .queueStatus 8 7 = s.readout.length ∧ bits .queueStatus 16 5 = s.hostFifo.length
          ∧ bits .queueStatus 24 3 = s.sweeps.length
          ∧ bits .queueStatus 28 3 = (match s.sweeps with
            | [] => 0
            | w :: _ => match w.state with
              | .queued => 1 | .running => 2 | .stalled => 3 | .closing => 4 | .posting _ => 5)
          ∧ (bits .queueStatus 31 1 = 1 ↔ ∃ c rest, s.commands = c :: rest ∧ 0 < c.mark))
      ∧ (bits .eventStatus 0 4 = s.eventLog.length ∧ bits .eventStatus 8 8 = s.lost.toNat)
      ∧ (bits (.regionStatus n) 0 2
            = (match (s.region n).state with | .empty => 0 | .defined => 1 | .initializing => 2 | .live => 3)
          ∧ (bits (.regionStatus n) 4 1 = 1 ↔ (s.region n).satSeen = true)
          ∧ (bits (.regionStatus n) 5 1 = 1 ↔ (s.region n).wrapSeen = true)
          ∧ (bits (.regionStatus n) 6 1 = 1 ↔ (s.region n).poisonSeen = true)
          ∧ (bits (.regionStatus n) 7 1 = 1 ↔ (s.region n).rejectSeen = true)
          ∧ bits (.regionStatus n) 8 1 = 0 ∧ bits (.regionStatus n) 16 16 = (s.region n).rejectCount.toNat)
      ∧ (bits (.regionDescA n) 0 21 = d.base.toNat
          ∧ bits (.regionDescA n) 24 2 = (match d.format with | .u32 => 0 | .s32 => 1 | .u64 => 2 | .s64 => 3)
          ∧ bits (.regionDescA n) 28 3
            = (match d.operator with
              | .addSat => 0 | .addWrap => 1 | .max => 2 | .min => 3 | .last => 4 | .decayAdd => 5))
      ∧ (bits (.regionDescB n) 0 16 = d.binsMinus1.toNat ∧ bits (.regionDescB n) 16 4 = d.decayShift.toNat
          ∧ bits (.regionDescB n) 20 2 = (match d.rounding with | .floor => 0 | .halfUp => 1 | .halfEven => 2)
          ∧ bits (.regionDescB n) 24 3 = d.inputShift.toNat
          ∧ (bits (.regionDescB n) 28 1 = 1 ↔ d.laneOk = true) ∧ (bits (.regionDescB n) 29 1 = 1 ↔ d.hostOk = true))
      ∧ ((bits .alertRaw 0 1 = 1 ↔ s.completions ≠ [])
          ∧ (bits .alertRaw 1 1 = 1 ↔ s.readoutWatermark.toNat ≤ s.readout.length ∨ ∃ r ∈ s.readout, r.last = true)
          ∧ (bits .alertRaw 2 1 = 1 ↔ s.eventLog ≠ [])
          ∧ (∀ k, 3 ≤ k → k < 12 → (bits .alertRaw k 1 = 1 ↔ s.alerts.sticky.getLsbD k = true))
          ∧ bits .alertRaw 12 20 = 0
          ∧ bits .alertEnable 0 32 = s.alerts.enable.toNat ∧ bits .alertClear 0 32 = 0
          ∧ (alertActive s = true ↔ ∃ k < 12, bits .alertRaw k 1 = 1 ∧ s.alerts.enable.getLsbD k = true)
          ∧ ∀ (c : AlertCause) (k : Nat), k < 12 →
              ((s.raise c).alerts.sticky.getLsbD k = true ↔ s.alerts.sticky.getLsbD k = true
                ∨ k = (match c with
                  | .laneState => 3 | .laneError => 4 | .laneStall => 5 | .saturation => 6 | .integrity => 7
                  | .corrected => 8 | .refresh => 9 | .hostError => 10 | .power => 11)))
      ∧ (∀ c, bits (.counter c) 0 32 = (match c with
            | .goodFrames => s.stats.goodFrames.toNat | .crcErrors => s.stats.crcErrors.toNat
            | .formatErrors => s.stats.formatErrors.toNat | .seqGaps => s.stats.seqGaps.toNat
            | .overruns => s.stats.overruns.toNat | .retrains => s.stats.retrains.toNat
            | .rowHits => s.stats.rowHits.toNat | .rowMisses => s.stats.rowMisses.toNat
            | .ceCount => s.stats.ceCount.toNat | .ueCount => s.stats.ueCount.toNat
            | .refreshOverruns => s.stats.refreshOverruns.toNat))
      ∧ ∀ c m, (readRegister (s.count c) (.counter m)).toNat
          = if m = c then
              Nat.min (bits (.counter m) 0 32 + 1) (if c = .rowHits ∨ c = .rowMisses then 4294967295 else 65535)
            else bits (.counter m) 0 32

/-- The checks of a REG_WRITE, in RUN and in QUIESCING (R22, R172, R173): an unassigned or read-only index, or a defined
field outside its range of the table, receives BAD_FIELD and changes nothing; every other write is accepted, and takes
effect whole at the clean end, on the state as it stands there. -/
def Obligations.RegisterWritesAreCheckedWhole : Prop :=
  (∀ (op : Opcode) (r : Register) (value : Word) (body : List Byte) (s : State), s.quiet →
      s.host.tx = .response op { code := .accept, body, commit := .writeRegister r value } →
      exec .cleanEnd s = .next (s.writeRegister value r).endedClean)
  ∧ ∀ (index : Byte) (value : Word) (crc : Byte) (s : State), s.receives (.regWrite index value crc) → s.writable →
    ∀ refused : Prop,
      (refused ↔
        index.toNat ∈ [0x00, 0x01, 0x07, 0x09, 0x10] ∨ (0x14 ≤ index.toNat ∧ index.toNat ≤ 0x18)
          ∨ index.toNat = 0x1F ∨ 0x30 ≤ index.toNat
          ∨ (index.toNat = 0x02 ∧
              ((value.extractLsb' 0 13).toNat = 0 ∨ 4096 < (value.extractLsb' 0 13).toNat))
          ∨ (index.toNat = 0x03 ∧
              (16 < (value.extractLsb' 0 5).toNat ∨ (value.extractLsb' 16 8).toNat = 0))
          ∨ (index.toNat = 0x04 ∧ (value.extractLsb' 0 6).toNat = 0)
          ∨ (index.toNat = 0x05 ∧
              ((value.extractLsb' 0 7).toNat = 0 ∨ 64 < (value.extractLsb' 0 7).toNat))
          ∨ (index.toNat = 0x08 ∧ (value.extractLsb' 8 4).toNat = 0)
          ∨ (index.toNat = 0x1E ∧ (value.extractLsb' 0 2).toNat = 3)) →
      (refused →
          s.carriesOut (.regWrite index value crc) .regWrite { code := .badField, body := [], commit := .nothing }
            (s.endTransaction true false))
        ∧ (¬ refused →
            ∃ r, registerOf index = some r
              ∧ s.carriesOut (.regWrite index value crc) .regWrite
                  { code := .accept, body := [], commit := .writeRegister r value }
                  (s.writeRegister value r).endedClean)

/-- An accepted write of a read-write register replaces every field with the written value, the register reads back the
written value's defined bits and 0 elsewhere, and nothing else changes (R22, R172, R173). -/
def Obligations.ConfigurationWritesReplaceTheirFields : Prop :=
  ∀ (value : Word) (crc : Byte) (s : State), s.writable →
    (s.receives (.regWrite 0x02#8 value crc) →
        1 ≤ (value.extractLsb' 0 13).toNat → (value.extractLsb' 0 13).toNat ≤ 4096 →
        ∃ u, u = { s with timebase := { s.timebase with tbDiv := value.extractLsb' 0 13 } }.endedClean
          ∧ s.carriesOut (.regWrite 0x02#8 value crc) .regWrite
              { code := .accept, body := [], commit := .writeRegister .timebase value } u
          ∧ readRegister u .timebase = value &&& 0x1FFF#32)
      ∧ (s.receives (.regWrite 0x03#8 value crc) →
          (value.extractLsb' 0 5).toNat ≤ 16 → 1 ≤ (value.extractLsb' 16 8).toNat →
          ∃ u, u = { s with
                mergeControl :=
                  { watermark := value.extractLsb' 0 5, lingerLimit := value.extractLsb' 8 4,
                    lingerPeriod := value.extractLsb' 16 8 } }.endedClean
            ∧ s.carriesOut (.regWrite 0x03#8 value crc) .regWrite
                { code := .accept, body := [], commit := .writeRegister .mergeControl value } u
            ∧ readRegister u .mergeControl = value &&& 0x00FF0F1F#32)
      ∧ (s.receives (.regWrite 0x04#8 value crc) → 1 ≤ (value.extractLsb' 0 6).toNat →
          ∃ u, u = { s with refreshTimer := { s.refreshTimer with interval := value.extractLsb' 0 6 } }.endedClean
            ∧ s.carriesOut (.regWrite 0x04#8 value crc) .regWrite
                { code := .accept, body := [], commit := .writeRegister .refreshControl value } u
            ∧ readRegister u .refreshControl = value &&& 0x3F#32)
      ∧ (s.receives (.regWrite 0x05#8 value crc) →
          1 ≤ (value.extractLsb' 0 7).toNat → (value.extractLsb' 0 7).toNat ≤ 64 →
          ∃ u, u = { s with readoutWatermark := value.extractLsb' 0 7 }.endedClean
            ∧ s.carriesOut (.regWrite 0x05#8 value crc) .regWrite
                { code := .accept, body := [], commit := .writeRegister .readoutControl value } u
            ∧ readRegister u .readoutControl = value &&& 0x7F#32)
      ∧ (s.receives (.regWrite 0x06#8 value crc) →
          ∃ u, u = { s with laneControl := { s.laneControl with holdLimit := value.extractLsb' 0 16 } }.endedClean
            ∧ s.carriesOut (.regWrite 0x06#8 value crc) .regWrite
                { code := .accept, body := [], commit := .writeRegister .holdLimit value } u
            ∧ readRegister u .holdLimit = value &&& 0xFFFF#32)
      ∧ (s.receives (.regWrite 0x11#8 value crc) →
          ∃ u, u = { s with alerts := { s.alerts with enable := value.extractLsb' 0 12 } }.endedClean
            ∧ s.carriesOut (.regWrite 0x11#8 value crc) .regWrite
                { code := .accept, body := [], commit := .writeRegister .alertEnable value } u
            ∧ readRegister u .alertEnable = value &&& 0xFFF#32)

/-- The four LANE_CONTROL rows (R66, R174), each with its own ACTION (log entry 9). A zero ERR_LIMIT is refused.
Otherwise AUTO_TRAIN, ERR_LIMIT and LANE_ENABLE take the written values, the programmed TRIM the written one or, with
TRIM_UP and TRIM_DOWN, one step that stays at 15 and at 0; HOLD_LIMIT stays. Then the lane acts on the change of
LANE_ENABLE and on RESET together: nothing, SEEK with one RETRAIN, or one lane reset, which empties the buffer and the
park slot, logs LANE_RESET with the frames discarded and sets LANE_STATE if the lane was LOCKED (R72). A frame in
progress on the pins is abandoned (R51, R72), and a message being sent on LRET completes (R52; log entry 19). The
register reads back its fields with ACTION NONE, and nothing else changes. -/
def Obligations.LaneControlActsInOrder : Prop :=
  ∀ (c : Instr) (action : BitVec 2) (value : Word) (crc : Byte) (s : State),
    ((c = .laneEnable value crc ∧ action = 0#2) ∨ (c = .trimUp value crc ∧ action = 1#2)
      ∨ (c = .trimDown value crc ∧ action = 2#2) ∨ (c = .laneReset value crc ∧ action = 3#2)) →
    s.receives c → s.writable →
    (value.extractLsb' 8 4 = 0#4 →
        s.carriesOut c .regWrite { code := .badField, body := [], commit := .nothing } (s.endTransaction true false))
      ∧ (value.extractLsb' 8 4 ≠ 0#4 →
          ∀ (before after acts : Bool) (trim : Trim) (w : State),
            before = s.laneControl.enable → after = value.getLsbD 0 →
            acts = (action = 3#2 || (before && !after)) →
            trim.toNat = (if action = 1#2 then Nat.min (s.laneControl.trim.toNat + 1) 15
              else if action = 2#2 then s.laneControl.trim.toNat - 1
              else (value.extractLsb' 4 4).toNat) →
            w = { s with
              laneControl :=
                { enable := after, autoTrain := value.getLsbD 1, trim := trim, errLimit := value.extractLsb' 8 4,
                  holdLimit := s.laneControl.holdLimit } } →
            ∃ u, s.carriesOut c .regWrite
                { code := .accept, body := [], commit := .writeRegister .laneControl (withAction action value) } u
              ∧ (acts = false → before = after → u = w.endedClean)
              ∧ (acts = false → before ≠ after →
                  u = { w with
                    lane := { s.lane with
                      state := .seek, returnQueue := [.retrain], errors := 0#4, seekTimer := 0, training := .none
                      wire := if s.lane.wire = Wire.low then Wire.low else Wire.high } }.endedClean)
              ∧ (acts = true →
                  ∃ x : State,
                    x = { w with
                      lane := { s.lane with
                        state := if after then .seek else .off
                        training := .none
                        returnQueue := if after then [.retrain] else []
                        buffer := []
                        parked := false
                        errors := 0#4
                        seekTimer := 0
                        trainTimer := 0
                        stallCount := 0
                        stallReported := false
                        wire := if after = true ∧ s.lane.wire = Wire.low then Wire.low else Wire.high } }.log
                          (s.event .laneReset .lane none (BitVec.ofNat 16 s.lane.buffer.length))
                    ∧ u = (if s.lane.state = .locked then x.raise .laneState else x).endedClean)
              ∧ readRegister u .laneControl
                  = ((value &&& 0x0F03#32) ||| (trim.zeroExtend 32 <<< 4)))

/-- ALERT_CLEAR clears each sticky cause written as 1 and leaves the rest, the level causes among them (R156);
EVENT_STATUS sets LOST to 0 (R159); a write of any value to a statistics counter sets that counter to 0 (R3). Nothing
else changes. -/
def Obligations.ClearingWritesClearTheirOwn : Prop :=
  ∀ (value : Word) (crc : Byte) (s : State), s.writable →
    (s.receives (.alertClear value crc) →
        ∃ u, u = { s with alerts := { s.alerts with sticky := s.alerts.sticky &&& ~~~(value.extractLsb' 0 12) } }.endedClean
          ∧ s.carriesOut (.alertClear value crc) .regWrite
              { code := .accept, body := [], commit := .writeRegister .alertClear value } u
          ∧ ∀ k : Fin 12, (alertRaw u).getLsbD k
              = ((alertRaw s).getLsbD k && (decide (k.val < 3) || !value.getLsbD k)))
      ∧ (s.receives (.eventStatus value crc) →
          s.carriesOut (.eventStatus value crc) .regWrite
            { code := .accept, body := [], commit := .writeRegister .eventStatus value }
            { s with lost := 0#8 }.endedClean)
      ∧ ∀ n : StatCounter, s.receives (.statisticsCounterClear n value crc) →
          ∃ u, u = { s with stats := u.stats }.endedClean
            ∧ s.carriesOut (.statisticsCounterClear n value crc) .regWrite
                { code := .accept, body := [], commit := .writeRegister (.counter n) value } u
            ∧ ∀ m, readRegister u (.counter m) = if m = n then 0#32 else readRegister s (.counter m)

/-- A write of REGION_STATUS[n] clears the flags written as 1, and REJECT_COUNT if CLEAR_COUNT is 1 (log entry 9); the
state and count fields of the written value are ignored, and no other region and nothing else changes (R92). A write
of ECC_INJECT arms the mode, or disarms it, and the register reads back the mode; MODE 3 is refused (R152). -/
def Obligations.RegionStatusAndEccWrites : Prop :=
  ∀ (value : Word) (crc : Byte) (s : State), s.writable →
    (∀ (n : RegionIx) (c : Instr) (clears : Bool),
        ((c = .regionStatus n value crc ∧ clears = false) ∨ (c = .clearCount n value crc ∧ clears = true)) →
        s.receives c →
        ∃ u v, s.carriesOut c .regWrite { code := .accept, body := [], commit := .writeRegister (.regionStatus n) v } u
          ∧ u = { s with regions := u.regions }.endedClean
          ∧ (∀ m, m ≠ n → u.region m = s.region m)
          ∧ u.region n =
              { s.region n with
                satSeen := (s.region n).satSeen && !value.getLsbD 4
                wrapSeen := (s.region n).wrapSeen && !value.getLsbD 5
                poisonSeen := (s.region n).poisonSeen && !value.getLsbD 6
                rejectSeen := (s.region n).rejectSeen && !value.getLsbD 7
                rejectCount := if clears then 0#16 else (s.region n).rejectCount })
      ∧ (s.receives (.eccInject value crc) → value.extractLsb' 0 2 ≠ 3#2 →
          ∃ u mode, eccModeCode mode = value.extractLsb' 0 2
            ∧ u = { s with
                array := { s.array with ecc := mode, eccRearmed := s.array.op.isSome } }.endedClean
            ∧ s.carriesOut (.eccInject value crc) .regWrite
                { code := .accept, body := [], commit := .writeRegister .eccInject value } u
            ∧ readRegister u .eccInject = value &&& 3#32)
      ∧ (s.receives (.eccInject value crc) → value.extractLsb' 0 2 = 3#2 →
          s.carriesOut (.eccInject value crc) .regWrite { code := .badField, body := [], commit := .nothing }
            (s.endTransaction true false))

/-! ### Dispatch of the queued commands -/

/-- A row of the Command Queue dispatches its kind exactly when every condition of R35 holds: then the head command
leaves the queue, and only it; otherwise nothing happens (log entry 1), and the head holds back every command behind
it (R35, R36, R37, R39). -/
def Obligations.DispatchWaitsForItsConditions : Prop :=
  ∀ (row : Instr) (kind : CommandKind) (s : State), s.quiet → dispatchedKind row = some kind →
    ((∀ c rest, ¬ s.dispatches kind c rest) → exec row s = .next s)
      ∧ ∀ c rest, s.dispatches kind c rest →
          ∃ t, exec row s = .next t
            ∧ t.commands.map (fun q => (q.ticket, q.kind, q.params))
                = rest.map (fun q => (q.ticket, q.kind, q.params))

/-- DEFINE, with the array idle and no record parked: the four checks of R81 in order, the first that fails giving the
RESULT and changing nothing else; otherwise the descriptor is stored as carried, with DECAY_SHIFT 0 unless the
operator is DECAY_ADD, the region is DEFINED with its flags and count as they were, and the RESULT is OK. -/
def Obligations.DefineChecksAndStores : Prop :=
  ∀ (c : QueuedCommand) (rest : List QueuedCommand) (s : State) (r : RegionIx) (raw : RawDescriptor) (span : Nat)
      (wrongState wrongField beyond overlap : Prop),
    s.quiet → s.unparked → s.array.op = none → s.dispatches .define c rest →
    r = paramRegion c.params → raw = rawDescriptorOf c.params →
    span = (if 2 ≤ raw.format.toNat then 2 else 1) * (raw.binsMinus1.toNat + 1) →
    (wrongState ↔ (s.region r).state = .initializing ∨ (s.region r).state = .live) →
    (wrongField ↔
      3 < raw.format.toNat ∨ 5 < raw.operator.toNat ∨ 2 < raw.rounding.toNat ∨ 15 < raw.decayShift.toNat
        ∨ 7 < raw.inputShift.toNat ∨ raw.base.toNat % 8 ≠ 0
        ∨ (raw.operator.toNat = 5 ∧ raw.decayShift.toNat = 0)) →
    (beyond ↔ 2097151 < raw.base.toNat + span - 1) →
    (overlap ↔
      ∃ (q : RegionIx) (a : Nat), q ≠ r ∧ (s.region q).state ≠ .empty
        ∧ raw.base.toNat ≤ a ∧ a < raw.base.toNat + span
        ∧ (s.region q).desc.base.toNat ≤ a ∧ a < (s.region q).desc.base.toNat + (s.region q).desc.span) →
    ∃ t, exec .define s = .next t
      ∧ (wrongState → t = { s with
          commands := rest, regionController := .posting (plainCompletion c.ticket .state) false })
      ∧ (¬ wrongState → wrongField → t = { s with
          commands := rest, regionController := .posting (plainCompletion c.ticket .descriptor) false })
      ∧ (¬ wrongState → ¬ wrongField → beyond → t = { s with
          commands := rest, regionController := .posting (plainCompletion c.ticket .range) false })
      ∧ (¬ wrongState → ¬ wrongField → ¬ beyond → overlap → t = { s with
          commands := rest, regionController := .posting (plainCompletion c.ticket .overlap) false })
      ∧ (¬ wrongState → ¬ wrongField → ¬ beyond → ¬ overlap →
          ∃ d : Descriptor,
            d.base.toNat = raw.base.toNat ∧ d.binsMinus1 = raw.binsMinus1
              ∧ (formatCode d.format).toNat = raw.format.toNat
              ∧ (operatorCode d.operator).toNat = raw.operator.toNat
              ∧ (roundingCode d.rounding).toNat = raw.rounding.toNat
              ∧ d.decayShift.toNat = (if raw.operator.toNat = 5 then raw.decayShift.toNat else 0)
              ∧ d.inputShift.toNat = raw.inputShift.toNat
              ∧ d.laneOk = raw.permits.getLsbD 0 ∧ d.hostOk = raw.permits.getLsbD 1
              ∧ t = { s with
                  commands := rest
                  regionController := .posting (plainCompletion c.ticket .ok) false
                  }.setRegion r { s.region r with state := .defined, desc := d })

/-- INIT, ADOPT and RETIRE, with the array idle and no record parked: INIT of a DEFINED region makes it INITIALIZING and
starts the fill at bin 0 (R83); ADOPT of a DEFINED region makes it LIVE (R85); RETIRE of a DEFINED or LIVE region without
a sweep in the Sweep Queue removes its entries unapplied and makes it EMPTY with its descriptor, flags and count kept
(R86). From any other state the RESULT is STATE, a RETIRE with a sweep gets BUSY, and nothing else changes (R79). -/
def Obligations.InitAdoptAndRetireAct : Prop :=
  ∀ (c : QueuedCommand) (rest : List QueuedCommand) (s : State) (r : RegionIx) (answer : Result → State),
    s.quiet → s.unparked → s.array.op = none → r = paramRegion c.params →
    (∀ e, answer e = { s with
      commands := rest, regionController := .posting (plainCompletion c.ticket e) false }) →
    (s.dispatches .init c rest →
        ((s.region r).state = .defined →
            exec .init s = .next
              ({ s with commands := rest, regionController := .filling c.ticket r 0 }.setRegion r
                { s.region r with state := .initializing }))
        ∧ ((s.region r).state ≠ .defined → exec .init s = .next (answer .state)))
      ∧ (s.dispatches .adopt c rest →
          ((s.region r).state = .defined →
              exec .adopt s = .next ((answer .ok).setRegion r { s.region r with state := .live }))
          ∧ ((s.region r).state ≠ .defined → exec .adopt s = .next (answer .state)))
      ∧ (s.dispatches .retire c rest →
          ((s.region r).state = .empty ∨ (s.region r).state = .initializing →
              exec .retire s = .next (answer .state))
          ∧ ((s.region r).state = .defined ∨ (s.region r).state = .live →
              ((∃ w ∈ s.sweeps, w.region = r) → exec .retire s = .next (answer .busy))
              ∧ ((∀ w ∈ s.sweeps, w.region ≠ r) →
                  exec .retire s = .next
                    ({ answer .ok with
                        entries := s.entries.filter (fun e => e.region ≠ r) }.setRegion r
                      { s.region r with state := .empty }))))

/-- The action moment of a region command and the re-offers of the parked records (R80, R88, R111, R112), for every row
that brings them. A region command dispatched while an array operation is in progress waits, and nothing else changes;
with the array idle its action moment is at once. At an action moment with a record parked, the UPDATE heads that are not
parked pass first, against the region before the command; then the command acts; then the parked records, and no other,
are re-offered in the order of the round robin. Every completion row does what it does with no record parked and no
region command waiting, which other statements give; then, if withdrawn entries depart with a record parked, each source
with an UPDATE at its head is offered, parked or not, in the order of the round robin, and these are the updates that
pass before a waiting command acts. What an action does is the content of the statements on DEFINE, INIT, ADOPT and
RETIRE; what offers do, of those on updates. That all this falls inside the one step is the model's reading (log entry
11). -/
def Obligations.ActionMomentsAndReoffers : Prop :=
  ∀ (s : State) (offered passed : State → State) (acted : State → RegionCommand → State), s.quiet →
    (∀ x, offered x = if x.lane.parked = true ∨ x.hostParked = true then
        x.offers (x.headRecord .lane).isSome (x.headRecord .host).isSome else x) →
    (∀ x, passed x = if x.lane.parked = true ∨ x.hostParked = true then
        x.offers ((x.headRecord .lane).isSome && !x.lane.parked) ((x.headRecord .host).isSome && !x.hostParked) else x) →
    (∀ x a, acted x a = (x.act a).offers (x.act a).lane.parked (x.act a).hostParked) →
    (∀ (row : Instr) (kind : CommandKind) (c : QueuedCommand) (rest : List QueuedCommand) (a : RegionCommand),
        dispatchedKind row = some kind → kind ∈ [CommandKind.define, .init, .adopt, .retire] →
        s.dispatches kind c rest →
        a = (match kind with
          | .init => .init c.ticket (paramRegion c.params)
          | .adopt => .adopt c.ticket (paramRegion c.params)
          | .retire => .retire c.ticket (paramRegion c.params)
          | _ => .define c.ticket (paramRegion c.params) (rawDescriptorOf c.params)) →
        (s.array.op ≠ none → exec row s = .next { s with commands := rest, regionController := .awaiting a })
        ∧ (s.array.op = none → exec row s = .next (acted (passed { s with commands := rest }) a)))
      ∧ ∀ (row : Instr) (calm done x : State), s.completes row →
          calm = { s with
            lane := { s.lane with parked := false }
            hostParked := false
            regionController := match s.regionController with
              | .awaiting _ => .idle
              | r => r } →
          exec row calm = .next done →
          x = { done with
            lane := { done.lane with parked := s.lane.parked }
            hostParked := s.hostParked
            regionController := match s.regionController with
              | .awaiting a => .awaiting a
              | _ => done.regionController } →
          (∀ a, s.regionController = .awaiting a →
              exec row s = .next (acted (if s.withdrawn = [] then passed x else offered x) a))
            ∧ ((∀ a, s.regionController ≠ .awaiting a) →
                exec row s = .next (if s.withdrawn = [] then x else offered x))

/-- READ_BIN and WRITE_BIN are taken by the Bin Access Unit (R119, R120). A SWEEP joins the tail of the Sweep Queue as
QUEUED with its cursor at FIRST, or is answered by the first check of R128 that fails. CANCEL_SWEEP removes every QUEUED
sweep with its tag, closes a RUNNING or STALLED head sweep with it, and answers ABORTED for each sweep removed, in order,
then OK or, if no sweep had the tag, NOT_FOUND (R135). Nothing else changes. -/
def Obligations.BinAndSweepCommandsAreTaken : Prop :=
  ∀ (c : QueuedCommand) (rest : List QueuedCommand) (s : State) (r : RegionIx), s.quiet → r = paramRegion c.params →
    (s.dispatches .readBin c rest →
        exec .readBin s = .next { s with commands := rest, binUnit := .read c.ticket r (paramHalf c.params 1) })
      ∧ (s.dispatches .writeBin c rest →
          exec .writeBin s = .next { s with
            commands := rest, binUnit := .write c.ticket r (paramHalf c.params 1) (paramValue c.params) })
      ∧ (s.dispatches .sweep c rest →
          ∀ (first last : BinIx) (answer : Result → State), first = paramHalf c.params 1 → last = paramHalf c.params 3 →
            (∀ e, answer e = { s with commands := rest, intake := [plainCompletion c.ticket e] }) →
            ((s.region r).state ≠ .live → exec .sweep s = .next (answer .state))
            ∧ ((s.region r).state = .live → last < first ∨ (s.region r).desc.binsMinus1 < last →
                exec .sweep s = .next (answer .binRange))
            ∧ ((s.region r).state = .live → first ≤ last → last ≤ (s.region r).desc.binsMinus1 →
                (4 ≤ s.sweeps.length → exec .sweep s = .next (answer .full))
                ∧ (s.sweeps.length < 4 →
                    exec .sweep s = .next { s with
                      commands := rest
                      sweeps := s.sweeps ++
                        [({ ticket := c.ticket, region := r, first := first, last := last
                            isDrain := decide (paramByte c.params 5 = 1#8)
                            isConsistent := decide (paramByte c.params 6 = 1#8)
                            tag := (paramByte c.params 7).extractLsb' 0 4
                            state := .queued, cursor := first.toNat } : Sweep)] })))
      ∧ (s.dispatches .cancelSweep c rest →
          ∀ (t : Tag) (goes : Sweep → Bool), t = (paramByte c.params 0).extractLsb' 0 4 →
            (∀ w, goes w = decide (w.state = .queued ∧ w.tag = t)) →
            exec .cancelSweep s = .next { s with
              commands := rest
              sweeps := (s.sweeps.filter fun w => !goes w).map fun w =>
                if w.tag = t ∧ (w.state = .running ∨ w.state = .stalled) then { w with state := .closing } else w
              intake := (s.sweeps.filter goes).map (fun w => plainCompletion w.ticket .aborted)
                ++ [plainCompletion c.ticket (if ∃ w ∈ s.sweeps, w.tag = t then .ok else .notFound)] })

/-- A FENCE seals the OPEN entries of the list whose SOURCES include HOST, or with the LANE flag all of them, and
takes as its wait set those entries and the withdrawn ones alike (R40). A RETAIN with a sweep queued or a region
INITIALIZING is REFUSED; otherwise the part is QUIESCING and every OPEN entry is sealed (R42, R113, R166). Nothing
else changes. -/
def Obligations.BarriersActAtDispatch : Prop :=
  ∀ (c : QueuedCommand) (rest : List QueuedCommand) (s : State), s.quiet →
    (s.dispatches .fence c rest →
        ∀ (chosen : Entry → Bool) (wait : Entry → Entry),
          (∀ e, chosen e = (decide (paramByte c.params 0 = 1#8) || e.fromHost)) →
          (∀ e, wait e = if chosen e then { e with waits := { e.waits with fence := true } } else e) →
          exec .fence s = .next { s with
            commands := rest
            fence := some c.ticket
            entries := s.entries.map fun e => wait (if chosen e then { e with isSealed := true } else e)
            array := { s.array with op := s.array.op.map (ArrayOp.mapWithdrawn wait) } })
      ∧ (s.dispatches .retain c rest →
          ((s.sweeps ≠ [] ∨ ∃ r, (s.region r).state = .initializing) →
              exec .retain s = .next { s with commands := rest, retain := .refused c.ticket })
          ∧ (s.sweeps = [] → (∀ r, (s.region r).state ≠ .initializing) →
              exec .retain s = .next { s with
                commands := rest
                retain := .quiescing c.ticket
                power := { s.power with state := .quiescing }
                entries := s.entries.map fun e => { e with isSealed := true } }))

/-! ### The acceptance point and the Merge Buffer -/

/-- An UPDATE that alone is ready and fails a check of R89, the first that fails giving the reason, is rejected (R90):
it departs, the region's REJECT_COUNT rises, and REJECT_SEEN going from clear to set logs UPDATE_REJECT; the pointer
names the other source (R112), and nothing else changes. A rejected lane record lets the PAD and reserved records behind
it be handled at once (R57), and the next UPDATE of the same source is offered at once, within the moment (R88, R90); with
no such record that is all. -/
def Obligations.RejectedUpdatesAreCounted : Prop :=
  ∀ (src : Source) (r : HostRecord) (reason : Byte) (g : Region) (permitted : Bool) (s u v w : State), s.quiet →
    s.headRecord src = some r → s.isParked src = false → s.ready src.other = false →
    g = s.region r.region → permitted = (match src with | .lane => g.desc.laneOk | .host => g.desc.hostOk) →
    ((g.state ≠ .live ∧ reason = 1#8)
      ∨ (g.state = .live ∧ permitted = false ∧ reason = 2#8)
      ∨ (g.state = .live ∧ permitted = true ∧ g.desc.binsMinus1 < r.bin ∧ reason = 3#8)) →
    u = ({ s with turn := src.other }.setRegion r.region
      { g with rejectSeen := true, rejectCount := satInc g.rejectCount }).depart src →
    v = (if g.rejectSeen then u
      else u.log (s.event .updateReject (match src with | .lane => .lane | .host => .host)
        (some (r.region, r.bin)) ((regionStateCode g.state).zeroExtend 8 ++ reason))) →
    w = (match src with | .lane => v.handleOwn | .host => v) →
    (w.headRecord src = none → exec .updateAcceptance s = .next w)
      ∧ (w.headRecord src ≠ none →
          exec .updateAcceptance s = .next (w.offers (decide (src = .lane)) (decide (src = .host))))
      ∧ (v.lane.ownHead = false → w = v)

/-- An UPDATE that alone is ready and passes the checks of R89 is scaled (R97) and placed (R110): it merges into its
bin's OPEN entry, which keeps its place, its AGE and its POST and is SEALED at 255 merges; where R105 forbids the
merge, that entry is sealed first; where a new entry is needed it is opened at the tail if one of the 16 slots is
free, with POST while a consistent sweep of the region is active (R118), and otherwise the record is parked (R111). The
pointer names the other source (R112), and nothing else changes. -/
def Obligations.AdmittedUpdatesArePlaced : Prop :=
  ∀ (src : Source) (r : HostRecord) (g : Region) (v : Int) (new : Entry) (swept : Bool) (s w : State),
    s.quiet → s.mergeOrdered →
    s.headRecord src = some r → s.isParked src = false → s.ready src.other = false →
    g = s.region r.region → g.state = .live →
    (match src with | .lane => g.desc.laneOk | .host => g.desc.hostOk) = true → r.bin ≤ g.desc.binsMinus1 →
    v = roundedQuotient g.desc.rounding r.value.toInt g.desc.inputShift.toNat →
    new = { region := r.region, bin := r.bin, operator := g.desc.operator, part := v, merges := 1
            isSealed := decide (g.desc.operator = .decayAdd ∨ s.power.state = .quiescing)
            age := 0, fromLane := decide (src = .lane), fromHost := decide (src = .host)
            post := swept
            waits := { fence := false, mark0 := false, mark1 := false } } →
    (swept = true ↔ ∃ x, s.sweptConsistently x r.region) →
    w = { s with turn := src.other } →
    (∀ (before after : List Entry) (e : Entry) (barred : Prop), s.entries = before ++ e :: after →
        e.region = r.region → e.bin = r.bin → e.isSealed = false →
        (barred ↔ e.operator = .decayAdd
          ∨ (e.operator = .addSat ∧ ((e.part < 0 ∧ 0 < v) ∨ (0 < e.part ∧ v < 0)))) →
        (¬ barred →
            exec .updateAcceptance s = .next (State.depart { w with
              entries := before ++
                { e with
                  part := (match e.operator with
                    | .max => Max.max e.part v
                    | .min => Min.min e.part v
                    | .last => v
                    | _ => e.part + v)
                  merges := e.merges + 1
                  isSealed := decide (e.merges + 1 = 255)
                  fromLane := e.fromLane || decide (src = .lane)
                  fromHost := e.fromHost || decide (src = .host) } :: after } src))
          ∧ (barred → s.occupancy < 16 →
              exec .updateAcceptance s = .next (State.depart { w with
                entries := before ++ { e with isSealed := true } :: after ++ [new] } src))
          ∧ (barred → 16 ≤ s.occupancy →
              exec .updateAcceptance s = .next (State.park { w with
                entries := before ++ { e with isSealed := true } :: after } src)))
      ∧ ((∀ e ∈ s.entries, e.region = r.region → e.bin = r.bin → e.isSealed = true) →
          (s.occupancy < 16 →
              exec .updateAcceptance s = .next (State.depart { w with entries := s.entries ++ [new] } src))
            ∧ (16 ≤ s.occupancy → exec .updateAcceptance s = .next (w.park src)))

/-- What passes the acceptance point within one moment (R88, R90, R112). UPDATE_ACCEPTANCE offers the sources that are
ready, those whose head is an UPDATE that is not parked; with neither nothing happens (log entry 1). In a round over both
sources (log entry 4) the pointer's source is offered, the pointer names the other, and that source is offered next, to
the buffer and the table as the first left them. Where a record was rejected, the records that the lane handles itself
are handled (R57), and a further round follows over the sources that were rejected and have an UPDATE next. A host record
departs with every remaining mark above 0 one lower (R24, R33); a lane record departs as handled (R57), and when it was
its frame's last the slot frees, with a CREDIT in LOCKED and out of QUIESCING (R71); a record that parks stays its
source's head (R111). -/
def Obligations.RoundsAndDepartures : Prop :=
  ∀ s : State,
    (s.quiet → exec .updateAcceptance s = .next (s.offers (s.ready .lane) (s.ready .host)))
      ∧ s.offers false false = s
      ∧ (∀ (lane host : Bool) (a b : State × Bool) (laneRejected hostRejected : Bool) (x : State),
          (lane = true ∧ host = true ∧ a = State.offer { s with turn := s.turn.other } s.turn
              ∧ b = a.1.offer s.turn.other ∧ laneRejected = (if s.turn = .lane then a.2 else b.2)
              ∧ hostRejected = (if s.turn = .lane then b.2 else a.2)
            ∨ lane = true ∧ host = false ∧ b = State.offer { s with turn := .host } .lane
              ∧ laneRejected = b.2 ∧ hostRejected = false
            ∨ lane = false ∧ host = true ∧ b = State.offer { s with turn := .lane } .host
              ∧ laneRejected = false ∧ hostRejected = b.2) →
          x = (if laneRejected then b.1.handleOwn else b.1) →
          s.offers lane host
            = x.offers (laneRejected && x.ready .lane) (hostRejected && x.ready .host))
      ∧ (∀ src, s.headRecord src = none → s.offer src = (s, false))
      ∧ (∀ src r, s.headRecord src = some r →
          ((s.offer src).2 = true ↔
            (s.region r.region).state ≠ .live
              ∨ (match src with
                | .lane => (s.region r.region).desc.laneOk
                | .host => (s.region r.region).desc.hostOk) = false
              ∨ (s.region r.region).desc.binsMinus1 < r.bin))
      ∧ (s.lane.ownHead = false → s.handleOwn = s)
      ∧ (∀ t, s.power.held = false → (exec .padRecord s = .next t ∨ exec .reservedRecord s = .next t) →
          s.handleOwn = t.handleOwn)
      ∧ (∀ r rest, s.hostFifo = r :: rest →
          s.depart .host = { s with
            hostFifo := rest
            hostParked := false
            commands := s.commands.map fun c => { c with mark := if c.mark = 0 then 0 else c.mark - 1 } })
      ∧ (∀ f fs r rs (credit : Bool), s.lane.buffer = f :: fs → f.records = r :: rs →
          (credit = true ↔ rs = [] ∧ s.lane.state = .locked ∧ s.power.state ≠ .quiescing ∧ s.lane.returnQueue.length < 8) →
          s.depart .lane = { s with
            lane := { s.lane with
              buffer := if rs = [] then fs else { f with records := rs } :: fs
              parked := false
              stallCount := 0
              stallReported := false
              returnQueue := s.lane.returnQueue ++ (if credit then [LaneMessage.credit] else []) } })
      ∧ s.park .host = { s with hostParked := true }
      ∧ s.park .lane = { s with lane := { s.lane with parked := true } }

/-- What the lane's head record does when it is no UPDATE (R57): a PAD is handled with no trace; a reserved TYPE is
handled and counted in FORMAT_ERRORS, with LANE_FORMAT of reason 4 and the frame's SEQ and with LANE_ERROR, in SEEK
too (the model's reading of R57 and R75 beside R60, log entry 24); a MARK with a free slot registers: every OPEN entry
with source LANE is sealed, every entry present with source LANE joins the slot's wait set, and the slot is slot 0 or
1 by R122; with both slots busy it stays. The return queue sends its messages in order, each whole once the one before
it has finished: a start bit at 0, the byte of R52 most significant bit first, a stop bit at 1, and LRET high in
between. A row whose record is not at the head, or whose queue is empty, changes nothing (log entry 1); which of two
free slots is taken later than a reset is the model's reading (log entry 13); so is the place in the queue, which a
message leaves with its start bit, and that any lane state sends (log entry 19). -/
def Obligations.LaneRecordsAndMessages : Prop :=
  ∀ s : State, s.power.held = false →
    (∀ q r, s.lane.head = some (q, r) →
        (r.type = .pad → exec .padRecord s = .next (s.depart .lane))
        ∧ (r.type = .reserved →
            exec .reservedRecord s = .next
              ((((s.depart .lane).count .formatErrors).log
                (s.event .laneFormat .lane none (4#8 ++ q))).raise .laneError))
        ∧ (r.type = .mark →
            (s.markers.slot0.isSome → s.markers.slot1.isSome → exec .markerRegistration s = .next s)
            ∧ (∀ (first : Bool) (m : Markers) (wait : Entry → Entry),
                (first = true ↔ s.markers.slot0 = none ∧ (s.markers.slot1 ≠ none ∨ s.markers.freedFirst = .slot0)) →
                (s.markers.slot0 = none ∨ s.markers.slot1 = none) →
                m = (if first then
                      { s.markers with
                        slot0 := some r.bin, older := if s.markers.slot1.isSome then .slot1 else .slot0 }
                    else
                      { s.markers with
                        slot1 := some r.bin, older := if s.markers.slot0.isSome then .slot0 else .slot1 }) →
                (∀ e, wait e = if e.fromLane = false then e
                  else if first then { e with waits := { e.waits with mark0 := true } }
                  else { e with waits := { e.waits with mark1 := true } }) →
                exec .markerRegistration s = .next (State.depart { s with
                  markers := m
                  entries := s.entries.map fun e => wait (if e.fromLane then { e with isSealed := true } else e)
                  array := { s.array with op := s.array.op.map (ArrayOp.mapWithdrawn wait) } } .lane)))
        ∧ (r.type ≠ .pad → exec .padRecord s = .next s)
        ∧ (r.type ≠ .reserved → exec .reservedRecord s = .next s)
        ∧ (r.type ≠ .mark → exec .markerRegistration s = .next s))
      ∧ (s.lane.head = none →
          exec .padRecord s = .next s ∧ exec .reservedRecord s = .next s ∧ exec .markerRegistration s = .next s)
      ∧ (∀ (m : LaneMessage) (rest : List LaneMessage) (byte : Byte), s.quiet → s.lane.lret = [] →
          s.lane.returnQueue = m :: rest →
          byte.toNat = (match m with | .retrain => 0x3C | .ready n => 0x90 + n.toNat | .credit => 0x6A) →
          exec .returnMessage s = .next { s with
            lane := { s.lane with
              returnQueue := rest
              lret := [false, byte.getLsbD 7, byte.getLsbD 6, byte.getLsbD 5, byte.getLsbD 4, byte.getLsbD 3,
                byte.getLsbD 2, byte.getLsbD 1, byte.getLsbD 0, true] } })
      ∧ (s.quiet → s.lane.lret ≠ [] ∨ s.lane.returnQueue = [] → exec .returnMessage s = .next s)
      ∧ (s.lane.lret = [] → s.lane.lretLevel = true)
      ∧ ∀ b rest, s.lane.lret = b :: rest → s.lane.lretLevel = b

/-! ### The array -/

/-- The Array Arbiter (R144, R145): nothing is granted while an operation is in progress. Otherwise REFRESH is granted
at debt 6, and at a lower debt above 0 when nothing else requests; a member is granted at a debt below 6 when it
requests and no member before it does, in the cyclic order BIN_ACCESS, SWEEP, COMMIT, INIT from the pointer on;
POISON_FILL when no member requests. What each member requests the array for is spelled out in State.wants (R83, R117,
R119, R131), State.mayCommit (R115) and State.pins (R118). A REFRESH or a POISON_FILL that is granted begins, and moves
no pointer; a row that the arbiter does not grant changes nothing (log entry 1). -/
def Obligations.ArbiterGrantsInOrder : Prop :=
  ∀ s : State, s.quiet → ∀ (refreshes fills : Prop) (gets : Member → Prop),
    (refreshes ↔ s.array.op = none ∧
      (6 ≤ s.refreshTimer.debt
        ∨ (0 < s.refreshTimer.debt ∧ (∀ m, ¬ s.wants m) ∧ s.power.fillRow = none))) →
    (fills ↔ s.array.op = none ∧ s.refreshTimer.debt < 6 ∧ (∀ m, ¬ s.wants m)
      ∧ s.power.fillRow.isSome) →
    (∀ m, gets m ↔ s.array.op = none ∧ s.refreshTimer.debt < 6 ∧ s.wants m
      ∧ ∃ before after, before ++ m :: after
            = (match s.array.pointer with
              | .binAccess => [Member.binAccess, .sweep, .commit, .init]
              | .sweep => [Member.sweep, .commit, .init, .binAccess]
              | .commit => [Member.commit, .init, .binAccess, .sweep]
              | .init => [Member.init, .binAccess, .sweep, .commit])
          ∧ ∀ q ∈ before, ¬ s.wants q) →
    (refreshes → exec .refresh s = .next { s with
        array := { s.array with op := some .refresh, eccRearmed := false } })
      ∧ (¬ refreshes → exec .refresh s = .next s)
      ∧ (∀ row, fills → s.power.fillRow = some row → exec .poisonFill s = .next { s with
          array := { s.array with op := some (.poisonFill row), eccRearmed := false } })
      ∧ (¬ fills → exec .poisonFill s = .next s)
      ∧ (∀ m, gets m ↔ s.nextGrant = some (.member m))
      ∧ ((¬ gets .binAccess ∨ ∀ t r b, s.binUnit ≠ .read t r b) → exec .binRead s = .next s)
      ∧ ((¬ gets .binAccess ∨ ∀ t r b v, s.binUnit ≠ .write t r b v) → exec .binWrite s = .next s)
      ∧ (¬ gets .sweep → exec .sweepStep s = .next s)
      ∧ (¬ gets .commit → exec .commit s = .next s)
      ∧ (¬ gets .init → exec .initStep s = .next s)

/-- A COMMIT at its grant withdraws the oldest eligible entry, the one nearest the head (R115, R117: State.mayCommit says
which entries are eligible, State.pins which are pinned), and takes its
inputs: its bin's counter, the descriptor, the words read and the armed injection (R144, R152); the pointer moves past
COMMIT, and nothing else changes. An INIT_STEP takes the bin that the fill requests (R83), a SWEEP_STEP the head
sweep's cursor bin with every entry of it that is not pinned (R132). A counter beyond the array stops the step (R142;
log entry 14). -/
def Obligations.CommitAndStepGrants : Prop :=
  ∀ (s : State) (counter : RegionIx → BinIx → List Entry → CounterOp), s.quiet →
    (∀ r b taken, counter r b taken =
      { region := r, bin := b, desc := (s.region r).desc
        low := s.array.words.read (counterAddress (s.region r).desc b)
        high := s.array.words.read (counterAddress (s.region r).desc b + 1)
        withdrawn := taken, forwarded := [], inject := s.array.ecc }) →
    (∀ (before after : List Entry) (e : Entry), s.nextGrant = some (.member .commit) →
        s.entries = before ++ e :: after → (∀ q ∈ before, ¬ s.mayCommit q) → s.mayCommit e →
        (counterLastWord (s.region e.region).desc e.bin < 2097152 →
            exec .commit s = .next { s with
              entries := before ++ after
              array := { s.array with
                pointer := .init, op := some (.commit (counter e.region e.bin [e])), eccRearmed := false } })
        ∧ (2097152 ≤ counterLastWord (s.region e.region).desc e.bin →
            exec .commit s = .fault (.noSuchWord (counterLastWord (s.region e.region).desc e.bin))))
      ∧ (∀ (ticket : Ticket) (r : RegionIx) (n : Nat) (b : BinIx), s.nextGrant = some (.member .init) →
          s.regionController = .filling ticket r n → b = BitVec.ofNat 16 n →
          (counterLastWord (s.region r).desc b < 2097152 →
              exec .initStep s = .next { s with
                array := { s.array with
                  pointer := .binAccess, op := some (.initStep (counter r b [])), eccRearmed := false } })
          ∧ (2097152 ≤ counterLastWord (s.region r).desc b →
              exec .initStep s = .fault (.noSuchWord (counterLastWord (s.region r).desc b))))
      ∧ (∀ (w : Sweep) (rest : List Sweep) (b : BinIx) (mine : Entry → Bool), s.nextGrant = some (.member .sweep) →
          s.sweeps = w :: rest → b = BitVec.ofNat 16 w.cursor →
          (∀ e, mine e = true ↔ e.region = w.region ∧ e.bin = b ∧ ¬ s.pins e) →
          (counterLastWord (s.region w.region).desc b < 2097152 →
              exec .sweepStep s = .next { s with
                entries := s.entries.filter (fun e => !mine e)
                array := { s.array with
                  pointer := .commit, eccRearmed := false
                  op := some (.sweepStep (counter w.region b (s.entries.filter mine))) } })
          ∧ (2097152 ≤ counterLastWord (s.region w.region).desc b →
              exec .sweepStep s = .fault (.noSuchWord (counterLastWord (s.region w.region).desc b))))

/-- BIN_READ and BIN_WRITE at their grant (R119, R120): the checks in order, the first that fails giving the RESULT
with nothing accessed and no entry taken; otherwise a read withdraws the bin's entries that are not pinned and
forwards the pinned ones (R118: State.pins), and a write withdraws them all. The pointer moves past BIN_ACCESS, and
nothing else changes. A counter beyond the array stops the step (R142; log entry 14). -/
def Obligations.BinOperationsTakeTheirBin : Prop :=
  ∀ (s w : State) (t : Ticket) (r : RegionIx) (b : BinIx) (v : BitVec 64) (isWrite : Bool) (row : Instr)
      (failing : Result → Prop) (mine held : Entry → Bool) (c : CounterOp) (op : ArrayOp),
    s.quiet → s.nextGrant = some (.member .binAccess) →
    (isWrite = false ∧ s.binUnit = .read t r b ∧ row = .binRead ∧ op = .binRead t c
      ∨ isWrite = true ∧ s.binUnit = .write t r b v ∧ row = .binWrite ∧ op = .binWrite t c v) →
    (∀ e, failing e ↔
      ((s.region r).state ≠ .live ∧ e = .state)
        ∨ ((s.region r).state = .live ∧ (s.region r).desc.binsMinus1 < b ∧ e = .binRange)
        ∨ ((s.region r).state = .live ∧ b ≤ (s.region r).desc.binsMinus1 ∧ isWrite = true
            ∧ (∃ x, s.sweptConsistently x r) ∧ e = .busy)) →
    (∀ e, mine e = true ↔ e.region = r ∧ e.bin = b ∧ (isWrite = true ∨ ¬ s.pins e)) →
    (∀ e, held e = true ↔ e.region = r ∧ e.bin = b ∧ s.pins e) →
    c = { region := r, bin := b, desc := (s.region r).desc
          low := s.array.words.read (counterAddress (s.region r).desc b)
          high := s.array.words.read (counterAddress (s.region r).desc b + 1)
          withdrawn := s.entries.filter mine
          forwarded := if isWrite then []
            else s.entries.filter held
          inject := s.array.ecc } →
    w = { s with array := { s.array with pointer := .sweep } } →
    (∀ e, failing e → exec row s = .next { w with binUnit := .posting (plainCompletion t e) })
      ∧ ((∀ e, ¬ failing e) → counterLastWord (s.region r).desc b < 2097152 →
          exec row s = .next { s with
            array := { s.array with pointer := .sweep, op := some op, eccRearmed := false }
            entries := s.entries.filter (fun e => !mine e) })
      ∧ ((∀ e, ¬ failing e) → 2097152 ≤ counterLastWord (s.region r).desc b →
          exec row s = .fault (.noSuchWord (counterLastWord (s.region r).desc b)))

/-- What COMMIT, BIN_READ and SWEEP_STEP leave in the array at their completion rows COMMIT_COMPLETION,
BIN_READ_COMPLETION and SWEEP_STEP_COMPLETION (R94, R117, R119, R132, R149 to R152): a DRAIN step writes the reset
value; on a poisoned counter every other operation leaves the marker in all its words; on a readable counter the
result of the withdrawn entries is written by a COMMIT, and by a BIN_READ or a SNAPSHOT step if an entry was withdrawn
or a word corrected; otherwise nothing. For a SNAPSHOT step over a poisoned counter R132's words are that nothing is
written; Chapter 7 leaves poison to Chapter 8, and R149, R150, R151 and the example of section 8.4 write the marker
(log entry 21). A write of counter data puts the injection taken at the grant into the low word only, and MODE then
returns to NONE, unless one has been armed since; with nothing written, or markers alone, it stays as it is. Every
word outside the counter reads as before, and the operation is over. -/
def Obligations.ReadingOperationsWriteTheCounter : Prop :=
  ∀ (row : Instr) (c : CounterOp) (k : ReadKind) (a : Nat) (s : State) (poisoned corrected wide : Bool) (bits : BitVec 64)
      (writes : Bool), s.quiet → s.wordsCanonical → s.completesReading row c k →
    a = c.desc.base.toNat + (if wide then 2 else 1) * c.bin.toNat →
    wide = decide (c.desc.format = .u64 ∨ c.desc.format = .s64) →
    poisoned = (c.low.isPoison || (wide && c.high.isPoison)) →
    corrected = (c.low.isCorrected || (wide && c.high.isCorrected)) →
    bits = (if k = .drain then resetBits c.desc.operator c.desc.format
      else c.desc.format.encode
        (applyEntries c.desc (c.desc.format.decode (c.high.value ++ c.low.value)) c.withdrawn).value) →
    writes = (decide (k = .drain)
      || (!poisoned && (decide (k = .commit) || !c.withdrawn.isEmpty || corrected))) →
    ∃ t, exec row s = .next t ∧ t.array.op = none
      ∧ (∀ x, x ≠ a → (wide = false ∨ x ≠ a + 1) → t.array.words.read x = s.array.words.read x)
      ∧ (writes = true →
          t.array.words.read a = (match c.inject with
              | .none => .clean (lowWord bits)
              | .single => .single (lowWord bits)
              | .double => .double (lowWord bits))
            ∧ (wide = true → t.array.words.read (a + 1) = .clean (highWord bits)))
      ∧ (writes = false → poisoned = true →
          t.array.words.read a = .marker ∧ (wide = true → t.array.words.read (a + 1) = .marker))
      ∧ (writes = false → poisoned = false → sameWords s t)
      ∧ t.array.ecc = (if writes = true ∧ c.inject ≠ .none ∧ s.array.eccRearmed = false then .none else s.array.ecc)

/-- What COMMIT, BIN_READ and SWEEP_STEP count and report, with no record parked and no region command waiting (R91,
R104, R143, R149 to R152, R158): each corrected word in CE_COUNT, the counter in UE_COUNT if a word was uncorrectable;
the sticky causes CORRECTED, INTEGRITY and SATURATION; the region's SAT_SEEN, WRAP_SEEN and POISON_SEEN; and the
events SATURATED, POISON_HIT, CORRECTED and UNCORRECTABLE in this order, the first two only with their flag going from
clear to set. Each word of the counter is one access. The injection taken at the grant is spent exactly when counter data
is written, so MODE stays armed where nothing or only markers are written (R152). The withdrawn entries have departed, and
nothing else changes but the words and what the unit itself delivers. -/
def Obligations.ReadingOperationsReport : Prop :=
  ∀ (row : Instr) (c : CounterOp) (k : ReadKind) (s : State) (g : Region) (cl ch ul uh poisoned hit : Bool) (ap : Applied)
      (event : EventCode → EventSource → Half → Event), s.quiet → s.undisturbed → s.completesReading row c k →
    g = s.region c.region →
    cl = c.low.isCorrected → ch = (c.desc.format.wide && c.high.isCorrected) →
    ul = c.low.isUncorrectable → uh = (c.desc.format.wide && c.high.isUncorrectable) →
    poisoned = (c.low.isPoison || (c.desc.format.wide && c.high.isPoison)) →
    hit = (decide (k = .commit) && poisoned && !(ul || uh)) →
    ap = applyEntries c.desc (c.desc.format.decode (c.high.value ++ c.low.value)) c.withdrawn →
    (∀ code source detail, event code source detail = s.event code source (some (c.region, c.bin)) detail) →
    ∃ t, exec row s = .next t
      ∧ t = { s with
          array := { s.array with
            words := t.array.words, op := none, banks := (s.accessCounter c).array.banks
            ecc :=
              if (k = .drain ∨ (poisoned = false ∧ (k = .commit ∨ c.withdrawn ≠ [] ∨ cl = true ∨ ch = true)))
                  ∧ c.inject ≠ .none ∧ s.array.eccRearmed = false then .none
              else s.array.ecc }
          regions := s.regions.set c.region.toNat
            { g with
              satSeen := g.satSeen || (!poisoned && ap.sat)
              wrapSeen := g.wrapSeen || (!poisoned && ap.wrap)
              poisonSeen := g.poisonSeen || ul || uh || hit } c.region.isLt
          stats := { (s.accessCounter c).stats with
            ceCount :=
              (if cl && ch then satInc (satInc s.stats.ceCount)
                else if cl || ch then satInc s.stats.ceCount else s.stats.ceCount)
            ueCount := if ul || uh then satInc s.stats.ueCount else s.stats.ueCount }
          alerts := { s.alerts with
            sticky := s.alerts.sticky
              ||| (if !poisoned && ap.sat && !g.satSeen then 0x040#12 else 0#12)
              ||| (if ul || uh || (hit && !g.poisonSeen) then 0x080#12 else 0#12)
              ||| (if cl || ch then 0x100#12 else 0#12) }
          eventLog := t.eventLog, moment := t.moment, lost := t.lost, binUnit := t.binUnit
          readout := t.readout, readoutSeq := t.readoutSeq, sweeps := t.sweeps }
      ∧ (k = .commit → t.binUnit = s.binUnit)
      ∧ (row ≠ .sweepStepCompletion →
          t.readout = s.readout ∧ t.readoutSeq = s.readoutSeq ∧ t.sweeps = s.sweeps)
      ∧ (row = .sweepStepCompletion → t.binUnit = s.binUnit)
      ∧ (t.eventLog, t.moment, t.lost)
          = (fun u : State => (u.eventLog, u.moment, u.lost))
            (((if !poisoned && ap.sat && !g.satSeen then [event .saturated .engine 0#16] else [])
              ++ (if hit && !g.poisonSeen then [event .poisonHit .engine 0#16] else [])
              ++ (if cl || ch then [event .corrected .array (if cl && ch then 3#16 else if ch then 2#16 else 1#16)]
                  else [])
              ++ (if ul || uh then
                    [event .uncorrectable .array (if ul && uh then 3#16 else if uh then 2#16 else 1#16)]
                  else [])).foldl State.log s)

/-- A BIN_READ delivers the counter with the withdrawn entries applied and the pinned ones forwarded on top, or zeros
with POISONED (R44, R119, R151). A SWEEP_STEP places its record with the next sequence number, LAST at bin LAST and
zeros with POISONED on a poisoned counter (R132, R137, R138); the sweep's cursor moves on; after bin LAST the sweep is
POSTING with OK, and a RUNNING sweep that finds the Readout FIFO full is STALLED (R131, R133). -/
def Obligations.ReadingOperationsDeliver : Prop :=
  ∀ (c : CounterOp) (s : State) (poisoned : Bool) (f : Format) (stored : Int), s.quiet → s.undisturbed →
    f = c.desc.format → poisoned = (c.low.isPoison || (f.wide && c.high.isPoison)) →
    stored = f.decode (c.high.value ++ c.low.value) →
    (∀ (ticket : Ticket) (bits : BitVec 64), s.array.op = some (.binRead ticket c) →
        bits = (if poisoned then 0#64
          else f.encode (applyEntries c.desc stored (c.withdrawn ++ c.forwarded)).value) →
        ∃ t, exec .binReadCompletion s = .next t
          ∧ t.binUnit = .posting
            { source := .host, poisoned := poisoned, ticket := ticket, result := .ok
              data := if f.wide then [highWord bits, lowWord bits] else [lowWord bits] })
      ∧ (∀ (w : Sweep) (rest : List Sweep) (bits : BitVec 64), s.array.op = some (.sweepStep c) →
          s.sweeps = w :: rest →
          bits = (if poisoned then 0#64 else f.encode (applyEntries c.desc stored c.withdrawn).value) →
          ∃ t, exec .sweepStepCompletion s = .next t
            ∧ t.readout = s.readout ++
              [({ seq := s.readoutSeq, tag := w.tag, poisoned := poisoned, last := decide (c.bin = w.last)
                  truncated := false, wide := f.wide, bin := c.bin, value := bits } : ReadoutRecord)]
            ∧ t.readoutSeq = s.readoutSeq + 1
            ∧ t.sweeps = { w with
                cursor := w.cursor + 1
                state := if c.bin = w.last then .posting .ok
                  else if w.state = .running ∧ 64 ≤ s.readout.length + 1 then .stalled else w.state } :: rest)

/-- BIN_WRITE and INIT_STEP write the counter without reading it, with no record parked and no region command waiting
(R83, R84, R120, R143, R152): the value given, or the reset value; they set no flag and log nothing. The write's
RESULT is OK. The fill goes on to the next bin, or after the last the region is LIVE and the INIT has its completion
ready. Every other word reads as before, and nothing else changes. -/
def Obligations.WritingOperationsComplete : Prop :=
  ∀ (c : CounterOp) (s w : State) (a : Nat) (wide : Bool) (bits : BitVec 64) (row : Instr), s.quiet → s.undisturbed →
    s.wordsCanonical → wide = c.desc.format.wide → a = counterAddress c.desc c.bin →
    ((row = .binWriteCompletion ∧ ∃ ticket, s.array.op = some (.binWrite ticket c bits)
        ∧ w = { s with binUnit := .posting (plainCompletion ticket .ok) })
      ∨ (row = .initStepCompletion ∧ s.array.op = some (.initStep c)
          ∧ bits = resetBits c.desc.operator c.desc.format
          ∧ ∃ ticket r n, s.regionController = .filling ticket r n
            ∧ w = if n < (s.region r).desc.binsMinus1.toNat then
                { s with regionController := .filling ticket r (n + 1) }
              else
                { s with
                  regionController := .posting (plainCompletion ticket .ok) true
                  }.setRegion r { s.region r with state := .live })) →
    ∃ t, exec row s = .next t
      ∧ t = { w with
          array := { s.array with
            words := t.array.words, op := none, banks := (s.accessCounter c).array.banks
            ecc := if c.inject ≠ .none ∧ s.array.eccRearmed = false then .none else s.array.ecc }
          stats := (s.accessCounter c).stats }
      ∧ (∀ x, x ≠ a → (wide = false ∨ x ≠ a + 1) → t.array.words.read x = s.array.words.read x)
      ∧ t.array.words.read a = (match c.inject with
          | .none => .clean (lowWord bits)
          | .single => .single (lowWord bits)
          | .double => .double (lowWord bits))
      ∧ (wide = true → t.array.words.read (a + 1) = .clean (highWord bits))

/-- A REFRESH closes every bank and pays one unit of debt at its completion, and touches no word (R146, R147). A
POISON_FILL leaves the marker in the 512 words of its row index and every other word as it was, and every bank CLOSED;
then the next row index is requested, or after row 4,095 the fill has ended, with the obligation cleared (R153, R165).
Nothing else changes. -/
def Obligations.RefreshAndFillComplete : Prop :=
  ∀ s : State, s.quiet → (∀ a, s.regionController ≠ .awaiting a) →
    (s.array.op = some .refresh →
        exec .refreshCompletion s = .next { s with
          array := { s.array with op := none, banks := Vector.replicate 8 none }
          refreshTimer := { s.refreshTimer with debt := s.refreshTimer.debt - 1 } })
      ∧ ∀ row : Nat, s.array.op = some (.poisonFill row) →
          ∃ t, exec .poisonFillCompletion s = .next t
            ∧ t = { s with
                array := { s.array with words := t.array.words, op := none, banks := Vector.replicate 8 none }
                power :=
                  if row < 4095 then { s.power with fillRow := some (row + 1) }
                  else { s.power with fillRow := none, fillObligation := false, initEnd := some true } }
            ∧ ∀ x, t.array.words.read x
                = if 512 * row ≤ x ∧ x ≤ 512 * row + 511 then .marker else s.array.words.read x

/-- R142: address W lies in bank W mod 8, column (W div 8) mod 64 and row W div 512, and each combination of the three
holds exactly one word of the array; bin 0 of a region lies in bank 0, bin b of a 32-bit region in bank b mod 8, and the
halves of bin b of a 64-bit region in banks 2 (b mod 4) and the next, in one row and column. An access is a row hit on a
bank OPEN on the word's row and a row miss otherwise, counted once, and leaves that bank OPEN on that row and every other
bank as it was (R143); a write of a word is read back, and every other word reads as before (R148). -/
def Obligations.WordsBanksAndAddresses : Prop :=
  (∀ (s : State) (a : Nat), a < 2097152 →
      ∀ hit : Bool, (hit = true ↔ s.array.banks[bankOf a] = some (rowOf a)) →
      ∃ t, s.access a = t
        ∧ t = { s with array := { s.array with banks := t.array.banks }, stats := t.stats }
        ∧ t.stats = { s.stats with
            rowHits := if hit then satInc s.stats.rowHits else s.stats.rowHits
            rowMisses := if hit then s.stats.rowMisses else satInc s.stats.rowMisses }
        ∧ t.array.banks[bankOf a] = some (rowOf a)
        ∧ ∀ b : Fin 8, b ≠ bankOf a → t.array.banks[b] = s.array.banks[b])
    ∧ (∀ a : Nat, a < 2097152 →
        (bankOf a).val = a % 8 ∧ (columnOf a).toNat = a / 8 % 64 ∧ (rowOf a).toNat = a / 512)
    ∧ (∀ a b : Nat, a < 2097152 → b < 2097152 →
        bankOf a = bankOf b → columnOf a = columnOf b → rowOf a = rowOf b → a = b)
    ∧ (∀ (bank : Fin 8) (column : BitVec 6) (row : BitVec 12),
        ∃ a < 2097152, bankOf a = bank ∧ columnOf a = column ∧ rowOf a = row)
    ∧ (∀ (d : Descriptor) (b : BinIx) (a : Nat), d.base.toNat % 8 = 0 → a = counterAddress d b →
        counterLastWord d b < 2097152 →
        (b = 0#16 → (bankOf a).val = 0)
          ∧ (d.format.wide = false → (bankOf a).val = b.toNat % 8)
          ∧ (d.format.wide = true →
              (bankOf a).val = 2 * (b.toNat % 4) ∧ (bankOf (a + 1)).val = 2 * (b.toNat % 4) + 1
                ∧ rowOf (a + 1) = rowOf a ∧ columnOf (a + 1) = columnOf a))
    ∧ (∀ (m : Memory) (a b : Nat) (x : Cell), m.wf = true →
        (m.write a x).read b = if b = a then x else m.read b)

/-! ### Sweeps and completions -/

/-- A sweep that has become the head starts: RUNNING, or STALLED with the Readout FIFO full, and if it is consistent
every OPEN entry of its region is sealed and every entry of the region loses POST (R118, R130, R131). A CLOSING sweep
with no step in progress and a free slot places its terminal record, with LAST and TRUNCATED and the cursor as BIN,
and is POSTING with ABORTED (R136, R138). Both are steps of the moment at which their conditions come to hold, so they
come before any later command (log entry 16). Nothing else changes, and a row whose conditions do not hold changes
nothing (log entry 1). -/
def Obligations.SweepsStartAndClose : Prop :=
  ∀ s : State, s.power.held = false →
    (∀ w rest, s.sweeps = w :: rest → w.state = .queued →
        exec .sweepStart s = .next { s with
          sweeps := { w with state := if s.readout.length < 64 then .running else .stalled } :: rest
          entries := s.entries.map fun e =>
            if w.isConsistent = true ∧ e.region = w.region then { e with isSealed := true, post := false } else e })
      ∧ ((∀ w rest, s.sweeps = w :: rest → w.state ≠ .queued) → exec .sweepStart s = .next s)
      ∧ (∀ (closing : Prop),
          (closing ↔ (∃ w rest, s.sweeps = w :: rest ∧ w.state = .closing)
            ∧ (∀ c, s.array.op ≠ some (.sweepStep c)) ∧ s.readout.length < 64) →
          (∀ w rest, closing → s.sweeps = w :: rest →
              exec .terminalRecord s = .next { s with
                readout := s.readout ++
                  [({ seq := s.readoutSeq, tag := w.tag, poisoned := false, last := true, truncated := true
                      wide := false, bin := BitVec.ofNat 16 w.cursor, value := 0#64 } : ReadoutRecord)]
                readoutSeq := s.readoutSeq + 1
                sweeps := { w with state := .posting .aborted } :: rest })
          ∧ (¬ closing → exec .terminalRecord s = .next s))

/-- COMPLETION_POST posts the record of the first producer that has one ready, in the order of R46: the
earlier-registered marker whose wait set is empty, the fence whose wait set is empty, the Bin Access Unit, the Region
Controller, the head sweep, the intake, a refused RETAIN. The record enters at the tail and the producer is released:
the slot frees, the barrier ends, the unit is idle, the sweep leaves the queue (R36, R39, R47, R123, R133). With the
queue full, or with no producer ready, nothing happens (log entry 1). Which slot counts as freed first when both are free
(R122) is the model's reading (DEDUCED, log entry 13), and so is that the later-registered marker waits for the earlier
(DEDUCED, log entry 15). -/
def Obligations.CompletionsPostInOrder : Prop :=
  ∀ (s : State) (none0 none1 noneFence : Prop) (post : Completion → State), s.quiet →
    (none0 ↔ ¬ (s.markers.slot0.isSome ∧ (s.markers.slot1 = none ∨ s.markers.older = .slot0)
      ∧ ∀ e ∈ s.entries ++ s.withdrawn, e.waits.mark0 = false)) →
    (none1 ↔ ¬ (s.markers.slot1.isSome ∧ (s.markers.slot0 = none ∨ s.markers.older = .slot1)
      ∧ ∀ e ∈ s.entries ++ s.withdrawn, e.waits.mark1 = false)) →
    (noneFence ↔ ¬ (s.fence.isSome ∧ ∀ e ∈ s.entries ++ s.withdrawn, e.waits.fence = false)) →
    (∀ c, post c = { s with completions := s.completions ++ [c] }) →
    (8 ≤ s.completions.length → exec .completionPost s = .next s)
      ∧ (s.completions.length < 8 →
        (∀ v, ¬ none0 → s.markers.slot0 = some v →
            exec .completionPost s = .next { post (markerCompletion v) with
              markers := { s.markers with
                slot0 := none, freedFirst := if s.markers.slot1 = none then .slot1 else .slot0 } })
        ∧ (∀ v, none0 → ¬ none1 → s.markers.slot1 = some v →
            exec .completionPost s = .next { post (markerCompletion v) with
              markers := { s.markers with
                slot1 := none, freedFirst := if s.markers.slot0 = none then .slot0 else .slot1 } })
        ∧ (∀ t, none0 → none1 → ¬ noneFence → s.fence = some t →
            exec .completionPost s = .next { post (plainCompletion t .ok) with fence := none })
        ∧ (none0 → none1 → noneFence →
            (∀ c, s.binUnit = .posting c → exec .completionPost s = .next { post c with binUnit := .idle })
            ∧ ((∀ c, s.binUnit ≠ .posting c) →
              (∀ c a, s.regionController = .posting c a →
                  exec .completionPost s = .next { post c with regionController := .idle })
              ∧ ((∀ c a, s.regionController ≠ .posting c a) →
                (∀ w rest r, s.sweeps = w :: rest → w.state = .posting r →
                    exec .completionPost s = .next { post (plainCompletion w.ticket r) with sweeps := rest })
                ∧ ((∀ w rest r, s.sweeps = w :: rest → w.state ≠ .posting r) →
                  (∀ c rest, s.intake = c :: rest →
                      exec .completionPost s = .next { post c with intake := rest })
                  ∧ (∀ t, s.intake = [] → s.retain = .refused t →
                      exec .completionPost s = .next { post (plainCompletion t .refused) with retain := .none })
                  ∧ (s.intake = [] → (∀ t, s.retain ≠ .refused t) → exec .completionPost s = .next s))))))

/-! ### The Tally Lane -/

/-- A frame in LOCKED (R67 to R69), whichever row brings it (log entry 10). With 4 frames held it is an overrun:
counted, logged with DETAIL 0, LANE_ERROR, and nothing else. With a slot free, a whole frame with a good CRC and KIND
TRAINING changes nothing; one with KIND DATA, COUNT 1 to 8 and the length of its COUNT is accepted: its records enter
the buffer byte for byte, laid out as the table of R56 says, the error count is cleared, GOOD_FRAMES rises, the
expected SEQ follows, and a SEQ other than the expected one is counted, logged and alerted as a gap. How the samples
of the pins make the frame's bytes is said by State.brings (R1, R51). The frame's CRC starts at 0xFFFF; each byte is
combined into the upper eight bits of the register, which is then shifted left eight times, with 0x1021 combined in
where the bit shifted out is 1 (R54). -/
def Obligations.LockedFramesAreAccepted : Prop :=
  crc16 [] = 0xFFFF#16
  ∧ (∀ (bytes : List Byte) (b : Byte) (register : Nat → Half), register 0 = crc16 bytes ^^^ (b ++ 0#8) →
      (∀ k < 8, register (k + 1)
        = if (register k).getLsbD 15 then (register k <<< 1) ^^^ 0x1021#16 else register k <<< 1) →
      crc16 (bytes ++ [b]) = register 8)
  ∧ (∀ r : UpdateRecord, ∃ b0 : Byte,
      updateRecordBytes r
          = [b0, r.bin.extractLsb' 8 8, r.bin.extractLsb' 0 8, r.value.extractLsb' 24 8, r.value.extractLsb' 16 8,
            r.value.extractLsb' 8 8, r.value.extractLsb' 0 8]
        ∧ (b0.extractLsb' 6 2).toNat = (match r.type with | .pad => 0 | .update => 1 | .mark => 2 | .reserved => 3)
        ∧ b0.extractLsb' 4 2 = r.ignored ∧ b0.extractLsb' 0 4 = r.region)
  ∧ ∀ (row : Instr) (f : Frame) (b0 seq : Byte) (n : Nat) (s w : State), s.quiet → s.lane.state = .locked →
    s.brings row f w →
    (4 ≤ s.lane.buffer.length →
        exec row s = .next
          (((w.count .overruns).log (s.event .laneOverrun .lane none 0#16)).raise .laneError))
      ∧ (s.lane.buffer.length < 4 → f.oddSample = false → 4 ≤ f.bytes.length →
          f.bytes[0]? = some b0 → f.bytes[1]? = some seq → n = (b0.extractLsb' 0 4).toNat →
          f.bytes.drop (f.bytes.length - 2) = halfBytes (crc16 (f.bytes.take (f.bytes.length - 2))) →
          (b0.extractLsb' 4 4 = 2#4 → exec row s = .next w)
          ∧ (b0.extractLsb' 4 4 = 1#4 → 1 ≤ n → n ≤ 8 → f.bytes.length = 4 + 7 * n →
              ∃ (records : List UpdateRecord) (u : State),
                records.length = n ∧ records.flatMap updateRecordBytes = (f.bytes.drop 2).take (7 * n)
                ∧ u = { w with
                    lane := { w.lane with
                      buffer := s.lane.buffer ++ [({ seq := seq, records := records } : LaneFrame)]
                      errors := 0#4
                      expectedSeq := seq + 1 } }.count .goodFrames
                ∧ exec row s = .next
                    (if seq = s.lane.expectedSeq then u
                      else ((u.count .seqGaps).log
                        (s.event .laneSeq .lane none (s.lane.expectedSeq ++ seq))).raise .laneError)))

/-- A frame in LOCKED that finds a free slot and fails a check of R68, the first that fails deciding, is dropped and
reported, whichever row brings it (log entry 10): SHORT, a bad CRC with the number of bytes, a KIND that is neither DATA
nor TRAINING, a LENGTH or COUNT that do not agree. The error count rises, staying at 15 (log entry 13); at ERR_LIMIT the
lane retrains, with LANE_RETRAIN, RETRAINS, LANE_STATE and SEEK (R70); below it the frame's CREDIT is returned, but not
in QUIESCING (R71). Nothing else changes, the expected SEQ least of all. How the samples of the pins make the frame is
said by State.brings (R1, R51). -/
def Obligations.BadFramesAreDropped : Prop :=
  ∀ (row : Instr) (f : Frame) (b0 seq : Byte) (short badCrc badKind badLength : Bool) (n : BitVec 4) (s w u : State),
    s.quiet → s.lane.state = .locked → s.lane.buffer.length < 4 → s.brings row f w →
    b0 = f.bytes.getD 0 0#8 → seq = f.bytes.getD 1 0#8 →
    short = (f.oddSample || decide (f.bytes.length < 4)) →
    badCrc = (!short && decide (f.bytes.drop (f.bytes.length - 2)
      ≠ halfBytes (crc16 (f.bytes.take (f.bytes.length - 2))))) →
    badKind = (!short && !badCrc && decide (b0.extractLsb' 4 4 ≠ 1#4 ∧ b0.extractLsb' 4 4 ≠ 2#4)) →
    badLength = (!short && !badCrc && decide (b0.extractLsb' 4 4 = 1#4)
      && !(decide (1 ≤ (b0.extractLsb' 0 4).toNat ∧ (b0.extractLsb' 0 4).toNat ≤ 8
        ∧ f.bytes.length = 4 + 7 * (b0.extractLsb' 0 4).toNat))) →
    (short || badCrc || badKind || badLength) = true →
    n.toNat = Nat.min (s.lane.errors.toNat + 1) 15 →
    u = State.raise { (if badCrc then
          (w.count .crcErrors).log
            (s.event .laneCrc .lane none (BitVec.ofNat 16 (Nat.min f.bytes.length 65535)))
        else
          (w.count .formatErrors).log
            (s.event .laneFormat .lane none
              (if short then 0x0100#16 else if badKind then 2#8 ++ seq else 3#8 ++ seq))) with
      lane := { w.lane with errors := n } } .laneError →
    (s.laneControl.errLimit ≤ n →
        exec row s = .next { ((u.log (s.event .laneRetrain .lane none (n.zeroExtend 16))).count .retrains).raise
            .laneState with
          lane := { w.lane with
            state := .seek, returnQueue := [.retrain], errors := 0#4, seekTimer := 0, training := .none } })
      ∧ (n < s.laneControl.errLimit →
          exec row s = .next
            (if s.power.state = .quiescing ∨ 8 ≤ s.lane.returnQueue.length then u
              else { u with
                lane := { u.lane with returnQueue := s.lane.returnQueue ++ [.credit] } }))

/-- The pins and the frames outside LOCKED, whichever row brings them (log entry 10). In OFF no sample is taken (R51,
R59), and every edge of LCLK only moves LRET on by one bit (R52; log entries 18 and 19). In the other states high
samples begin a frame after a low one, or add to the one in progress, and are lost on a run that is not received, which
the next low sample ends; a frame may come in several rows, as if in one (R51). In FAULT a frame is ignored (R65); in
SEEK one with KIND DATA is ignored and any other takes the lane to TRAIN, where AUTO_TRAIN and TRIM are read (R60, R61,
R63); in TRAIN a DATA frame with a good CRC is ignored, any other is judged by R55, and either restarts the 64-tick
timer (R61): before its 16th judged frame a trim only counts. Nothing else changes. -/
def Obligations.FramesOutsideLockedTrain : Prop :=
  (∀ (row : Instr) (samples : List LaneSample) (s : State), s.quiet →
      (row = .dataFrame samples ∨ row = .trainingFrame samples) →
      (s.lane.state = .off →
          exec row s = .next { s with lane := { s.lane with lret := s.lane.lret.drop samples.length } })
        ∧ (∀ n ns, s.lane.state ≠ .off → samples = (n :: ns).map (fun n => ({ lfrm := true, ld := n } : LaneSample)) →
            exec row s = .next { s with
              lane := { s.lane with
                lret := s.lane.lret.drop samples.length
                wire := match s.lane.wire with
                  | .low => .frame (n :: ns)
                  | .frame old => .frame (old ++ n :: ns)
                  | .high => .high } })
        ∧ (∀ d, s.lane.state ≠ .off → samples = [{ lfrm := false, ld := d }] →
            s.lane.wire = .low ∨ s.lane.wire = .high →
            exec row s = .next { s with lane := { s.lane with lret := s.lane.lret.tail, wire := .low } })
        ∧ ∀ a b t, samples = a ++ b → b ≠ [] → exec (.dataFrame a) s = .next t → exec row s = exec (.dataFrame b) t)
  ∧ ∀ (row : Instr) (f : Frame) (s w : State) (isData goodCrc good : Bool), s.quiet → s.brings row f w →
    isData = decide (f.bytes.head?.map (fun b => b.extractLsb' 4 4) = some 1#4) →
    goodCrc = (!f.oddSample && decide (4 ≤ f.bytes.length ∧
      f.bytes.drop (f.bytes.length - 2) = halfBytes (crc16 (f.bytes.take (f.bytes.length - 2))))) →
    good = (!f.oddSample && goodCrc && decide (f.bytes.length = 20 ∧
      f.bytes.take 18 = [0x20#8, 0x00#8, 0x0F#8, 0xF0#8, 0x55#8, 0xAA#8, 0x33#8, 0xCC#8, 0x96#8, 0x69#8,
        0x0F#8, 0xF0#8, 0x55#8, 0xAA#8, 0x33#8, 0xCC#8, 0x96#8, 0x69#8])) →
    (s.lane.state = .fault → exec row s = .next w)
      ∧ (s.lane.state = .seek → isData = true → exec row s = .next w)
      ∧ (s.lane.state = .seek → isData = false →
          exec row s = .next { w with
            lane := { w.lane with
              state := .train
              trainTimer := 0
              training :=
                { auto := s.laneControl.autoTrain
                  trim := if s.laneControl.autoTrain then 0#4 else s.laneControl.trim
                  dwell := 0, failed := false, scoreboard := 0#16, matched := 0#16 } } })
      ∧ (s.lane.state = .train → isData = true → goodCrc = true →
          exec row s = .next { w with lane := { w.lane with trainTimer := 0 } })
      ∧ (s.lane.state = .train → ¬ (isData = true ∧ goodCrc = true) → s.lane.training.dwell + 1 < 16 →
          exec row s = .next { w with
            lane := { w.lane with
              trainTimer := 0
              training := { s.lane.training with
                dwell := s.lane.training.dwell + 1
                failed := s.lane.training.failed || !good
                matched := if good then s.lane.training.matched ||| (1#16 <<< s.lane.training.trim.toNat)
                  else s.lane.training.matched } } })

/-- The 16th judged frame at a trim (R61, R63, R64), whichever row brings it (log entry 10): the trim passes if all 16
matched. An automatic training goes on to the next trim, and after trim 15 passes with the trim that R62 selects, or
fails with no passing trim; a manual training passes or fails at its one trim. A pass sets the trim in use, clears the
expected SEQ and the error count, places READY with the free slots, or 0 in QUIESCING, and enters LOCKED, with no
event; a failure flushes the return queue, logs LANE_FAULT with the match record, sets LANE_STATE and enters FAULT,
the trim in use kept. -/
def Obligations.TrainingEndsAtItsLastFrame : Prop :=
  ∀ (row : Instr) (f : Frame) (s w : State) (good pass : Bool) (t : Training) (l : Lane) (n : BitVec 3), s.quiet →
    s.brings row f w → s.lane.state = .train → s.lane.training.dwell = 15 →
    ¬ (frameKind f = some 1#4 ∧ frameCrcGood f = true) → good = frameMatches f →
    pass = (good && !s.lane.training.failed) →
    t = { s.lane.training with
      dwell := 16
      failed := !pass
      matched := if good then s.lane.training.matched ||| (1#16 <<< s.lane.training.trim.toNat)
        else s.lane.training.matched
      scoreboard := if pass then s.lane.training.scoreboard ||| (1#16 <<< s.lane.training.trim.toNat)
        else s.lane.training.scoreboard } →
    l = { w.lane with trainTimer := 0, training := t } →
    n = (if s.power.state = .quiescing then 0#3 else BitVec.ofNat 3 (4 - s.lane.buffer.length)) →
    ∀ (passes : Trim → State) (fails : State),
      (∀ trim, passes trim = { w with
        lane := { l with
          state := .locked, trimInUse := trim, expectedSeq := 0#8, errors := 0#4
          returnQueue := s.lane.returnQueue ++ (if s.lane.returnQueue.length < 8 then [.ready n] else []) } }) →
      fails = ({ w with lane := { l with state := .fault, returnQueue := [] } }.log
        (s.event .laneFault .lane none t.matched)).raise .laneState →
      (t.auto = true → t.trim ≠ 15#4 →
          exec row s = .next { w with
            lane := { l with training := { t with trim := t.trim + 1, dwell := 0, failed := false } } })
        ∧ (t.auto = true → t.trim = 15#4 →
            (∀ trim, selectTrim t.scoreboard = some trim → exec row s = .next (passes trim))
            ∧ (t.scoreboard = 0#16 → exec row s = .next fails))
        ∧ (t.auto = false → pass = true → exec row s = .next (passes t.trim))
        ∧ (t.auto = false → pass = false → exec row s = .next fails)

/-- R62: the trim that an automatic training selects from its scoreboard is the middle trim, or the lower of the two
middle ones, of the longest run of passing trims, the lowest-numbered of several; runs do not wrap. With no passing
trim there is none. No frame of a training changes the programmed TRIM. -/
def Obligations.TrainingSelectsTheMiddleTrim : Prop :=
  (∀ board : Half,
    (board = 0#16 → selectTrim board = none)
      ∧ (board ≠ 0#16 →
          ∃ a b : Nat, a ≤ b ∧ b ≤ 15
            ∧ (∀ t, a ≤ t → t ≤ b → board.getLsbD t = true)
            ∧ (a = 0 ∨ board.getLsbD (a - 1) = false) ∧ (b = 15 ∨ board.getLsbD (b + 1) = false)
            ∧ (∀ a' b', a' ≤ b' → b' ≤ 15 → (∀ t, a' ≤ t → t ≤ b' → board.getLsbD t = true) →
                b' - a' < b - a ∨ (b' - a' = b - a ∧ a ≤ a'))
            ∧ selectTrim board = some (BitVec.ofNat 4 (a + (b - a) / 2))))
    ∧ ∀ (row : Instr) (xs : List LaneSample) (s t : State), row = .dataFrame xs ∨ row = .trainingFrame xs →
        exec row s = .next t →
        t.laneControl = s.laneControl

/-! ### Time, power and resets -/

/-- A TIMEBASE_TICK out of RETAIN advances the 32-bit count, which wraps, takes TB_DIV for the next tick, and counts
every timer: the stall monitor, which returns to 0 with the stall and reports once in an episode when it reaches a
HOLD_LIMIT other than 0 (R74; that its ticks are counted while HOLD_LIMIT is 0 is the model's choice, log entry 20),
the linger divider (R114), the refresh divider (R146), the timers of SEEK and TRAIN (R60, R61), and the end of an
initialisation without a fill (R165); each step it causes is outstanding (log entry 16). In RETAIN it is no tick (R2;
log entry 1). Nothing else changes. An event of this moment carries the count as advanced here, which is the model's
choice too (log entry 22). -/
def Obligations.TicksCountEveryTimer : Prop :=
  ∀ (s : State) (cause : Option StallCause) (reports seeks trains : Bool), s.quiet →
    cause = (match s.lane.head with
      | some (_, r) =>
        if r.type = .update ∧ s.lane.parked = true then some (.update r.region r.bin)
        else if r.type = .mark ∧ s.markers.slot0 ≠ none ∧ s.markers.slot1 ≠ none then some .mark
        else none
      | none => none) →
    reports = decide (cause ≠ none ∧ s.laneControl.holdLimit ≠ 0#16
      ∧ s.laneControl.holdLimit.toNat ≤ s.lane.stallCount + 1 ∧ s.lane.stallReported = false) →
    seeks = decide (s.lane.state = .seek) → trains = decide (s.lane.state = .train) →
    (s.power.state = .retain → exec .timebaseTick s = .next s)
      ∧ (s.power.state ≠ .retain →
          exec .timebaseTick s = .next { s with
            timebase := { count := s.timebase.count + 1, tbDiv := s.timebase.tbDiv, tickDivider := s.timebase.tbDiv }
            lane := { s.lane with
              stallCount := if cause = none then 0 else s.lane.stallCount + 1
              stallReported := decide (cause ≠ none) && (s.lane.stallReported || reports)
              seekTimer := if seeks then s.lane.seekTimer + 1 else s.lane.seekTimer
              trainTimer := if trains then s.lane.trainTimer + 1 else s.lane.trainTimer }
            lingerDivider := s.lingerDivider + 1
            refreshTimer := { s.refreshTimer with divider := s.refreshTimer.divider + 1 }
            due :=
              { stall := if reports then cause else none
                linger := decide (s.mergeControl.lingerPeriod.toNat ≤ s.lingerDivider + 1)
                refresh := decide (s.refreshTimer.interval.toNat ≤ s.refreshTimer.divider + 1)
                seekRepeat := seeks && decide (64 ≤ s.lane.seekTimer + 1)
                trainTimeout := trains && decide (64 ≤ s.lane.trainTimer + 1) }
            power := { s.power with
              initEnd :=
                if s.power.state = .init ∧ s.power.fillObligation = false ∧ s.power.fillRow = none then some false
                else none } })

/-- The steps that a tick causes, and the end of initialisation, when they are outstanding: every entry of the list
ages, staying at 15, and the linger divider returns to 0 (R114); the refresh divider returns to 0 and the debt rises,
or at 6 an overrun is counted, logged and alerted (R146, R147); SEEK repeats RETRAIN (R60); TRAIN, and a frame in
progress with it (R51), is abandoned for SEEK (R61); a stall is reported (R74); initialisation ends in RUN, with
INITIALIZED and then POWER (R165). A step that is not outstanding changes nothing (log entries 1 and 16). An event enters
the log among those of its moment in ascending CODE, behind those of the same CODE; with 8 records held the last of them
is lost and LOST rises (R158, R159); so a stall report and an overrun of one tick give one log, whichever row comes
first. That these steps and the event that caused them are one moment is the model's reading (log entry 16). -/
def Obligations.OutstandingStepsHaveTheirEffects : Prop :=
  ∀ s : State, s.power.held = false →
    (s.due.linger = true →
        exec .lingerTick s = .next { s with
          due := { s.due with linger := false }
          lingerDivider := 0
          entries := s.entries.map fun e => { e with age := if e.age < 15 then e.age + 1 else 15 } })
      ∧ (s.due.refresh = true → s.refreshTimer.debt < 6 →
          exec .refreshDue s = .next { s with
            due := { s.due with refresh := false }
            refreshTimer := { s.refreshTimer with divider := 0, debt := s.refreshTimer.debt + 1 } })
      ∧ (s.due.refresh = true → 6 ≤ s.refreshTimer.debt →
          exec .refreshDue s = .next ((({ s with
              due := { s.due with refresh := false }
              refreshTimer := { s.refreshTimer with divider := 0 } }.count .refreshOverruns).log
            (s.event .refreshOverrun .array none 0#16)).raise .refresh))
      ∧ (∀ u v, exec .laneStall s = .next u → exec .refreshDue s = .next v →
          exec .refreshDue u = exec .laneStall v)
      ∧ (∀ (e : Event) (before now : List Event) (place : Nat),
          s.eventLog = before ++ now → s.moment = now.length → place ≤ now.length →
          (∀ f ∈ now.take place, eventByte f.code ≤ eventByte e.code) →
          (∀ f ∈ (now.drop place).take 1, eventByte e.code < eventByte f.code) →
          ∀ log, log = before ++ now.take place ++ e :: now.drop place →
          (s.eventLog.length < 8 → s.log e = { s with eventLog := log, moment := now.length + 1 })
          ∧ (8 ≤ s.eventLog.length → s.log e = { s with eventLog := log.dropLast, lost := satInc s.lost }))
      ∧ (s.due.seekRepeat = true →
          exec .seekRetrainRepeat s = .next { s with
            due := { s.due with seekRepeat := false }
            lane := { s.lane with
              seekTimer := 0
              returnQueue := s.lane.returnQueue
                ++ (if s.lane.returnQueue.length < 8 then [.retrain] else []) } })
      ∧ (s.due.trainTimeout = true →
          exec .trainTimeout s = .next { s with
            due := { s.due with trainTimeout := false }
            lane := { s.lane with
              state := .seek, returnQueue := [.retrain], errors := 0#4, seekTimer := 0, training := .none
              wire := if s.lane.wire = Wire.low then Wire.low else Wire.high } })
      ∧ (∀ region bin, s.due.stall = some (.update region bin) →
          exec .laneStall s = .next
            (({ s with due := { s.due with stall := none } }.log
              (s.event .laneStall .lane (some (region, bin)) 1#16)).raise .laneStall))
      ∧ (s.due.stall = some .mark →
          exec .laneStall s = .next
            (({ s with due := { s.due with stall := none } }.log
              (s.event .laneStall .lane none 2#16)).raise .laneStall))
      ∧ (∀ filled, s.power.initEnd = some filled →
          exec .endOfInitialisation s = .next
            (({ s with power := { s.power with state := .run, initEnd := none } }.log
              (s.event .initialized .power none (if filled then 1#16 else 2#16))).raise .power))
      ∧ (s.due.linger = false → exec .lingerTick s = .next s)
      ∧ (s.due.refresh = false → exec .refreshDue s = .next s)
      ∧ (s.due.seekRepeat = false → exec .seekRetrainRepeat s = .next s)
      ∧ (s.due.trainTimeout = false → exec .trainTimeout s = .next s)
      ∧ (s.due.stall = none → exec .laneStall s = .next s)
      ∧ (s.power.initEnd = none → exec .endOfInitialisation s = .next s)

/-- A power-on reset and a pin reset, in any state, put every block at its value of the reset table, and hold the
part in reset (the values are those of ResetStateIsAsTabled, which spells them out); the array's words are kept
until the fill of INIT writes them, and the fill obligation is set by the first and kept by the second (R165, R171).
The release leaves the part in INIT, with the POISON_FILL of row index 0 requested if the obligation is set; without
a reset in force it changes nothing (log entry 1). The values that the table does not give are the model's (log
entries 5 and 6). -/
def Obligations.ResetsGiveTheResetTable : Prop :=
  ∀ s : State,
    (∀ (row : Instr) (obligation : Bool),
        ((row = .powerOnReset ∧ obligation = true)
          ∨ (row = .pinReset ∧ obligation = s.power.fillObligation)) →
        exec row s = .next { State.reset with
          pending := s.pending
          array := { State.reset.array with words := s.array.words }
          power :=
            { state := .init, held := true, fillObligation := obligation, fillRow := none, initEnd := none } })
      ∧ (s.power.held = true →
          exec .resetRelease s = .next { s with
            power := { s.power with
              held := false, fillRow := if s.power.fillObligation then some 0 else none } })
      ∧ (s.power.held = false → exec .resetRelease s = .next s)

/-- The part enters RETAIN when the nine conditions of R167 hold together and no earlier producer has a completion
ready (R46; log entry 15), and not before (log entry 1): the OK of the RETAIN is posted, every bank is CLOSED, the
lane is OFF with its return queue flushed, its stall monitor idle and its error count 0, LANE_STATE not set, and the
array refreshes itself. The clean end of a WAKE returns it to RUN: refresh debt and divider at 0, self-refresh left,
the lane in SEEK with one RETRAIN if it is enabled, POWER set, the RETAIN barrier ended (R169); in RUN a WAKE has no
effect (R29). Nothing else changes. -/
def Obligations.RetainIsEnteredAndLeft : Prop :=
  (∀ (s : State) (ticket : Ticket) (conditions : Prop), s.quiet → s.retain = .quiescing ticket →
      (conditions ↔
        s.power.state = .quiescing ∧ s.lane.buffer = [] ∧ s.hostFifo = [] ∧ s.lane.parked = false
          ∧ s.hostParked = false ∧ s.entries = [] ∧ s.withdrawn = [] ∧ s.markers.slot0 = none
          ∧ s.markers.slot1 = none ∧ s.array.op = none ∧ s.refreshTimer.debt = 0 ∧ s.completions.length < 8
          ∧ s.nextProducer = none ∧ ∀ op d, s.host.tx ≠ .response op d) →
      (conditions →
          exec .enterRetain s = .next { s with
            completions := s.completions ++ [plainCompletion ticket .ok]
            retain := .retained
            lane := { s.lane with
              state := .off, returnQueue := [], training := .none, seekTimer := 0, trainTimer := 0
              stallCount := 0, stallReported := false, errors := 0#4, wire := .high }
            array := { s.array with banks := Vector.replicate 8 none, selfRefresh := true }
            power := { s.power with state := .retain } })
        ∧ (¬ conditions → exec .enterRetain s = .next s))
    ∧ ∀ (crc : Byte) (s : State), s.receives (.wake crc) →
        (s.power.state = .retain →
            s.carriesOut (.wake crc) .wake { code := .accept, body := [], commit := .wake }
              ({ s with
                  power := { s.power with state := .run }
                  refreshTimer := { s.refreshTimer with debt := 0, divider := 0 }
                  array := { s.array with selfRefresh := false }
                  lane :=
                    if s.laneControl.enable then
                      { s.lane with
                        state := .seek, returnQueue := [.retrain], errors := 0#4, seekTimer := 0, training := .none
                        wire := if s.lane.wire = Wire.low then Wire.low else Wire.high }
                    else s.lane
                  retain := .none }.raise .power).endedClean)
          ∧ (s.power.state = .run →
              s.carriesOut (.wake crc) .wake { code := .accept, body := [], commit := .wake } s.endedClean)

/-! ### Arithmetic -/

/-- R96: the rounded quotient of n by 2^s. FLOOR is the greatest integer not above the quotient; HALF_UP the nearest, the
greater at a tie; HALF_EVEN the nearest, the even one at a tie; with s = 0 every mode gives n. -/
def Obligations.RoundedQuotientIsNearest : Prop :=
  ∀ (n : Int) (s : Nat),
    (roundedQuotient .floor n s * 2 ^ s ≤ n ∧ n < (roundedQuotient .floor n s + 1) * 2 ^ s)
      ∧ ((2 * roundedQuotient .halfUp n s - 1) * 2 ^ s ≤ 2 * n
          ∧ 2 * n < (2 * roundedQuotient .halfUp n s + 1) * 2 ^ s)
      ∧ ((2 * roundedQuotient .halfEven n s - 1) * 2 ^ s ≤ 2 * n
          ∧ 2 * n ≤ (2 * roundedQuotient .halfEven n s + 1) * 2 ^ s
          ∧ (2 * n = (2 * roundedQuotient .halfEven n s - 1) * 2 ^ s
              ∨ 2 * n = (2 * roundedQuotient .halfEven n s + 1) * 2 ^ s →
            roundedQuotient .halfEven n s % 2 = 0))
      ∧ (s = 0 → ∀ r, roundedQuotient r n s = n)

/-- The six operators on a stored value in its format's range (R93, R98 to R102): the result is in the range. ADD_SAT
and DECAY_ADD give the exact value where it is in the range and otherwise the end of the range it passed, with
SAT_SEEN exactly then; ADD_WRAP differs from the exact sum by a multiple of 2^width, with WRAP_SEEN exactly when the
sum left the range; MAX, MIN and LAST take a negative partial in an unsigned format as 0, and LAST alone sets SAT_SEEN
for it. A decay alone never leaves the interval between the value and 0. A stored value is read back as written, and
every reset value is 0 or, for MAX and MIN, the end of the range (R87). Every scaled value of a signed 32-bit number
is one itself (R97). -/
def Obligations.OperatorsStayInTheFormat : Prop :=
  (∀ (op : Operator) (d : Descriptor) (x p exact : Int) (lo hi : Int) (a : Applied),
      lo = (match d.format with | .u32 => 0 | .s32 => -2147483648 | .u64 => 0 | .s64 => -9223372036854775808) →
      hi = (match d.format with
        | .u32 => 4294967295 | .s32 => 2147483647
        | .u64 => 18446744073709551615 | .s64 => 9223372036854775807) →
      lo ≤ x → x ≤ hi → a = applyOperator op d x p →
      exact = (if op = .decayAdd then x - roundedQuotient d.rounding x d.decayShift.toNat + p else x + p) →
      ((op = .addSat ∨ op = .decayAdd) →
          (lo ≤ exact → exact ≤ hi → a = { value := exact, sat := false, wrap := false })
          ∧ (exact < lo → a = { value := lo, sat := true, wrap := false })
          ∧ (hi < exact → a = { value := hi, sat := true, wrap := false }))
        ∧ (op = .addWrap →
            lo ≤ a.value ∧ a.value ≤ hi
            ∧ (∃ k : Int, a.value = exact + k * (if d.format = .u32 ∨ d.format = .s32 then 2 ^ 32 else 2 ^ 64))
            ∧ a.sat = false ∧ (a.wrap = true ↔ exact < lo ∨ hi < exact))
        ∧ (-2147483648 ≤ p → p ≤ 2147483647 →
            (op = .max → a = { value := Max.max x (Max.max lo p), sat := false, wrap := false })
            ∧ (op = .min → a = { value := Min.min x (Max.max lo p), sat := false, wrap := false })
            ∧ (op = .last → a = { value := Max.max lo p, sat := decide (lo = 0 ∧ p < 0), wrap := false }))
        ∧ (0 ≤ x → 0 ≤ x - roundedQuotient d.rounding x d.decayShift.toNat
            ∧ x - roundedQuotient d.rounding x d.decayShift.toNat ≤ x)
        ∧ (x < 0 → x ≤ x - roundedQuotient d.rounding x d.decayShift.toNat
            ∧ x - roundedQuotient d.rounding x d.decayShift.toNat ≤ 0)
        ∧ d.format.decode (d.format.encode x) = x
        ∧ d.format.decode (resetBits op d.format) = (if op = .max then lo else if op = .min then hi else 0))
    ∧ ∀ (d : Descriptor) (value : Word), -2147483648 ≤ scaledValue d value ∧ scaledValue d value ≤ 2147483647

/-- R107: for every operator but DECAY_ADD, one entry that merges the scaled updates u1 to un, each merge allowed by
R105, gives the counter the value that n entries of their own give it one after another; and the flags compare as its
table says: ADD_SAT the same, MAX and MIN none, ADD_WRAP exactly when the whole sum leaves the range, LAST by un
alone. -/
def Obligations.MergedEqualsSeparateApplications : Prop :=
  ∀ (op : Operator) (d : Descriptor) (x u1 un : Int) (us : List Int) (one sep : Applied), op ≠ .decayAdd →
    d.format.minimum ≤ x → x ≤ d.format.maximum →
    (∀ u ∈ u1 :: us, -2147483648 ≤ u ∧ u ≤ 2147483647) →
    (∀ before v after, us = before ++ v :: after →
      mergeAllowed op (before.foldl (mergedPartial op) u1) v = true) →
    one = applyOperator op d x (us.foldl (mergedPartial op) u1) →
    sep = us.foldl
      (fun a v =>
        { value := (applyOperator op d a.value v).value
          sat := a.sat || (applyOperator op d a.value v).sat
          wrap := a.wrap || (applyOperator op d a.value v).wrap })
      (applyOperator op d x u1) →
    (u1 :: us).getLast? = some un →
    one.value = sep.value
      ∧ (op = .addSat → one.sat = sep.sat ∧ one.wrap = sep.wrap)
      ∧ (op = .max ∨ op = .min → one.sat = false ∧ one.wrap = false ∧ sep.sat = false ∧ sep.wrap = false)
      ∧ (op = .addWrap → one.sat = sep.sat
          ∧ (one.wrap = true ↔ x + (u1 :: us).sum < d.format.minimum ∨ d.format.maximum < x + (u1 :: us).sum))
      ∧ (op = .last → one.wrap = sep.wrap
          ∧ (one.sat = true ↔ (d.format = .u32 ∨ d.format = .u64) ∧ un < 0))

/-! ### What every step keeps -/

/-- Every step keeps the array's words in canonical form: addresses rising, and no entry that holds what an unlisted word
reads as (R153; log entry 5). -/
def Obligations.StepsKeepTheWordsCanonical : Prop :=
  ∀ s t : State, s.wordsCanonical → step s = .next t → t.wordsCanonical

/-- Every step keeps every queue, list and count within its size, the slot that a step in progress needs among them,
and a decided command fitting (R15, R24, R31, R43, R52, R57, R109, R127, R131, R139, R146, R158). -/
def Obligations.StepsKeepTheCapacities : Prop :=
  ∀ s t : State, s.withinCapacity → step s = .next t → t.withinCapacity

/-- Every step keeps the two invariants of the entry list: a bin has at most one OPEN entry, and it is the bin's youngest
(R109). -/
def Obligations.StepsKeepTheMergeListOrdered : Prop :=
  ∀ s t : State, s.mergeOrdered → step s = .next t → t.mergeOrdered

/-- Every step keeps every entry present in the ranges of R106 and R108: 1 to 255 merges, SEALED at 255, a partial of at
most as many signed 32-bit values, AGE 0 to 15, and a source. -/
def Obligations.StepsKeepTheEntriesInRange : Prop :=
  ∀ s t : State, s.entriesInRange → step s = .next t → t.entriesInRange

/-- From a state in which every region that is not EMPTY lies in the array and shares no word with another (R81, R82),
every entry, sweep and fill belongs to a region that holds it, no step faults, no step refuses, and every step keeps
all this: no operation ever meets a word that does not exist (R142). -/
def Obligations.PlacedStatesNeverFault : Prop :=
  ∀ s : State, s.placed →
    (∀ a, step s ≠ .fault a) ∧ (∀ r, step s ≠ .refused r) ∧ ∀ t, step s = .next t → t.placed

/-- The state right after reset has every invariant that the steps keep, and the values of the reset table, row by row,
which power-on reset and pin reset share but for the fill and the words (ResetsGiveTheResetTable): INIT; banks CLOSED, the
arbiter pointers at BIN_ACCESS and LANE, every divider, debt and sequence counter 0; the port IDLE with previous outcome 0
and DISARMED; every region EMPTY with a zero descriptor, flags and count; every queue, slot and park slot empty, no unit
holding a command and no barrier; the lane OFF; the configuration registers at their defaults, every statistics counter 0
(R76, R165, R171, R175). That every word of the array reads as the poison marker at
reset is the model's choice (log entry 5: R153 gives it only after the fill); that the release has happened, with the
first POISON_FILL requested and no reset in force, is its reading (DEDUCED, log entry 7). -/
def Obligations.ResetStateIsAsTabled : Prop :=
  ∀ s : State, s = State.reset →
    s.quiet ∧ s.withinCapacity ∧ s.wordsCanonical ∧ s.mergeOrdered ∧ s.entriesInRange ∧ s.placed
      ∧ s.power.state = .init ∧ s.power.fillObligation = true ∧ s.power.fillRow = some 0
      ∧ (∀ r, s.region r = { state := .empty, desc := .zero, satSeen := false, wrapSeen := false
                             poisonSeen := false, rejectSeen := false, rejectCount := 0#16 })
      ∧ s.host.tx = .idle ∧ s.host.prevOutcome = false ∧ s.host.armed = false
      ∧ s.array.banks = Vector.replicate 8 none ∧ s.array.pointer = .binAccess ∧ s.array.op = none ∧ s.array.ecc = .none
      ∧ s.refreshTimer.debt = 0 ∧ s.refreshTimer.divider = 0
      ∧ s.turn = .lane ∧ s.lingerDivider = 0 ∧ s.readoutSeq = 0#8
      ∧ s.regionController = .idle ∧ s.binUnit = .idle ∧ s.intake = [] ∧ s.fence = none ∧ s.retain = .none
      ∧ s.markers.slot0 = none ∧ s.markers.slot1 = none ∧ s.lane.parked = false ∧ s.hostParked = false
      ∧ s.lane.state = .off ∧ s.lane.trimInUse = 8#4 ∧ s.lane.expectedSeq = 0#8 ∧ s.lane.errors = 0#4
      ∧ s.lane.stallCount = 0 ∧ s.lane.stallReported = false ∧ s.alerts.sticky = 0#12 ∧ s.lost = 0#8
      ∧ s.hostFifo = [] ∧ s.commands = [] ∧ s.completions = [] ∧ s.entries = [] ∧ s.sweeps = [] ∧ s.readout = []
      ∧ s.eventLog = [] ∧ s.lane.buffer = [] ∧ s.lane.returnQueue = [] ∧ s.lane.lretLevel = true
      ∧ readRegister s .deviceId = 0x6D081601#32 ∧ readRegister s .timebase = 32#32
      ∧ readRegister s .mergeControl = 0x00100408#32 ∧ readRegister s .refreshControl = 7#32
      ∧ readRegister s .readoutControl = 16#32 ∧ readRegister s .holdLimit = 1000#32
      ∧ readRegister s .tickCount = 0#32 ∧ readRegister s .laneControl = 0x00000482#32
      ∧ readRegister s .laneStatus = 0x00000080#32
      ∧ readRegister s .alertEnable = 0xFFF#32 ∧ readRegister s .alertRaw = 0#32 ∧ readRegister s .alertClear = 0#32
      ∧ readRegister s .eventStatus = 0#32 ∧ readRegister s .arrayStatus = 0#32 ∧ readRegister s .eccInject = 0#32
      ∧ readRegister s .mergeStatus = 0#32 ∧ readRegister s .queueStatus = 0#32
      ∧ (∀ n, readRegister s (.regionStatus n) = 0#32 ∧ readRegister s (.regionDescA n) = 0#32
          ∧ readRegister s (.regionDescB n) = 0#32)
      ∧ (∀ c, readRegister s (.counter c) = 0#32)
      ∧ ∀ a, s.array.words.read a = .marker
end

