-- ==== Sys2Proof/Laws/Memory.lean ====
section
/-! SUPPORT. The array's words: what a read gives after a write and after the fill of a row (R142, R148, R153), and that
every operation on the words keeps the canonical form. -/

namespace Sys2Proof.Machine

theorem Memory.read_of_lt (m : Memory) (a : Nat) (h : ∀ p ∈ m, a < p.1) : Memory.read m a = .marker := by
  induction m with
  | nil => rfl
  | cons p rest ih =>
    obtain ⟨k, c⟩ := p
    have hk := h (k, c) (by simp)
    simp only [Memory.read]
    rw [if_neg (by simp only at hk; omega)]
    exact ih fun q hq => h q (by simp [hq])

theorem Memory.wf_cons (k : Nat) (c : Cell) (rest : Memory) :
    Memory.wf ((k, c) :: rest) = true ↔
      c ≠ .marker ∧ (∀ p ∈ rest, k < p.1) ∧ Memory.wf rest = true := by
  simp [Memory.wf, and_assoc]

/-- Which addresses a write can list. -/
theorem Memory.mem_write (m : Memory) (a : Nat) (c : Cell) (p : Nat × Cell) (h : p ∈ Memory.write m a c) :
    p ∈ m ∨ (p = (a, c) ∧ c ≠ .marker) := by
  induction m with
  | nil =>
    simp only [Memory.write] at h
    split at h <;> simp_all
  | cons q rest ih =>
    obtain ⟨k, d⟩ := q
    simp only [Memory.write] at h
    split at h
    · rcases List.mem_cons.1 h with rfl | h
      · simp
      · rcases ih h with h | h <;> simp [h]
    · split at h
      · split at h
        · simp [h]
        · rcases List.mem_cons.1 h with rfl | h <;> simp_all
      · split at h
        · exact Or.inl h
        · rcases List.mem_cons.1 h with rfl | h <;> simp_all

theorem Memory.write_wf (m : Memory) (a : Nat) (c : Cell) (h : Memory.wf m = true) :
    Memory.wf (Memory.write m a c) = true := by
  induction m with
  | nil =>
    simp only [Memory.write]
    split <;> simp_all [Memory.wf]
  | cons p rest ih =>
    obtain ⟨k, d⟩ := p
    obtain ⟨hd, hlt, hr⟩ := (Memory.wf_cons k d rest).1 h
    simp only [Memory.write]
    split
    · refine (Memory.wf_cons _ _ _).2 ⟨hd, fun p hp => ?_, ih hr⟩
      rcases Memory.mem_write rest a c p hp with hp | ⟨rfl, -⟩
      · exact hlt p hp
      · assumption
    · split
      · split
        · exact hr
        · subst k
          exact (Memory.wf_cons _ _ _).2 ⟨by assumption, hlt, hr⟩
      · split
        · exact h
        · refine (Memory.wf_cons _ _ _).2 ⟨by assumption, fun p hp => ?_, h⟩
          rcases List.mem_cons.1 hp with rfl | hp
          · simp only; omega
          · have := hlt p hp; omega

theorem Memory.poisonRow_wf (m : Memory) (row : Nat) (h : Memory.wf m = true) :
    Memory.wf (Memory.poisonRow m row) = true := by
  induction m with
  | nil => rfl
  | cons p rest ih =>
    obtain ⟨k, c⟩ := p
    obtain ⟨hc, hlt, hr⟩ := (Memory.wf_cons k c rest).1 h
    have ih := ih hr
    simp only [Memory.poisonRow, List.filter_cons] at ih ⊢
    split
    · exact (Memory.wf_cons _ _ _).2 ⟨hc, fun p hp => hlt p (List.mem_of_mem_filter hp), ih⟩
    · exact ih

theorem Memory.read_write_self (m : Memory) (a : Nat) (c : Cell) (h : Memory.wf m = true) :
    Memory.read (Memory.write m a c) a = c := by
  induction m with
  | nil =>
    simp only [Memory.write]
    split <;> simp_all [Memory.read]
  | cons p rest ih =>
    obtain ⟨k, d⟩ := p
    obtain ⟨hd, hlt, hr⟩ := (Memory.wf_cons k d rest).1 h
    simp only [Memory.write]
    split
    · rw [Memory.read, if_neg (by omega)]
      exact ih hr
    · split
      · subst k
        split
        · subst c
          exact Memory.read_of_lt rest a hlt
        · simp [Memory.read]
      · split
        · subst c
          refine Memory.read_of_lt _ a fun p hp => ?_
          rcases List.mem_cons.1 hp with rfl | hp
          · simp only; omega
          · have := hlt p hp; omega
        · simp [Memory.read]

theorem Memory.read_write_other (m : Memory) (a b : Nat) (c : Cell) (h : Memory.wf m = true) (hab : b ≠ a) :
    Memory.read (Memory.write m a c) b = Memory.read m b := by
  induction m with
  | nil =>
    simp only [Memory.write]
    split
    · rfl
    · simp [Memory.read, Ne.symm hab]
  | cons p rest ih =>
    obtain ⟨k, d⟩ := p
    obtain ⟨hd, hlt, hr⟩ := (Memory.wf_cons k d rest).1 h
    simp only [Memory.write]
    split
    · simp only [Memory.read, ih hr]
    · split
      · subst k
        split
        · simp [Memory.read, Ne.symm hab]
        · simp [Memory.read, Ne.symm hab]
      · split
        · rfl
        · simp [Memory.read, Ne.symm hab]

theorem Memory.read_poisonRow (m : Memory) (row a : Nat) :
    Memory.read (Memory.poisonRow m row) a
      = if a / Config.wordsPerRow = row then .marker else Memory.read m a := by
  induction m with
  | nil => simp [Memory.poisonRow, Memory.read]
  | cons p rest ih =>
    obtain ⟨k, c⟩ := p
    simp only [Memory.poisonRow, List.filter_cons, Memory.read] at ih ⊢
    by_cases hk : k / Config.wordsPerRow = row <;> by_cases ha : k = a
    · subst ha
      simp_all
    · simp_all
    · subst ha
      simp_all [Memory.read]
    · simp_all [Memory.read]

theorem reset_words : State.reset.array.words.wf = true := rfl

/-! ### Folds over the words of a counter -/

theorem Memory.foldl_write_wf (l : List Nat) (c : Cell) (m : Memory) (h : Memory.wf m = true) :
    Memory.wf (l.foldl (fun m a => Memory.write m a c) m) = true := by
  induction l generalizing m with
  | nil => exact h
  | cons a l ih => exact ih _ (Memory.write_wf m a c h)

theorem Memory.read_foldl_write (l : List Nat) (c : Cell) (m : Memory) (b : Nat) (h : Memory.wf m = true) :
    Memory.read (l.foldl (fun m a => Memory.write m a c) m) b
      = if b ∈ l then c else Memory.read m b := by
  induction l generalizing m with
  | nil => simp
  | cons a l ih =>
    rw [List.foldl_cons, ih _ (Memory.write_wf m a c h)]
    by_cases hb : b ∈ l
    · simp [hb]
    · by_cases hba : b = a
      · subst hba
        simp [hb, Memory.read_write_self m b c h]
      · simp [hb, hba, Memory.read_write_other m a b c h hba]

/-- What a marked counter reads as (R150, R151). -/
theorem State.markCounter_read (s : State) (c : CounterOp) (b : Nat) (h : s.wordsCanonical) :
    (s.markCounter c).array.words.read b
      = if b ∈ counterWords c.desc c.bin then .marker else s.array.words.read b :=
  Memory.read_foldl_write _ _ _ _ h

theorem State.markCounter_wf (s : State) (c : CounterOp) (h : s.wordsCanonical) :
    (s.markCounter c).wordsCanonical :=
  Memory.foldl_write_wf _ _ _ h

/-- The low word of a stored counter (R152). -/
theorem State.storeCounter_low (s : State) (c : CounterOp) (bits : BitVec 64) (h : s.wordsCanonical) :
    (s.storeCounter c bits).array.words.read (counterAddress c.desc c.bin)
      = injectedCell c.inject (lowWord bits) := by
  simp only [State.storeCounter]
  split
  · rw [Memory.read_write_other _ _ _ _ (Memory.write_wf _ _ _ h) (by omega), Memory.read_write_self _ _ _ h]
  · rw [Memory.read_write_self _ _ _ h]

/-- The high word of a stored 64-bit counter (R152). -/
theorem State.storeCounter_high (s : State) (c : CounterOp) (bits : BitVec 64) (h : s.wordsCanonical)
    (hw : c.desc.format.wide = true) :
    (s.storeCounter c bits).array.words.read (counterAddress c.desc c.bin + 1) = .clean (highWord bits) := by
  simp only [State.storeCounter, hw, if_true]
  rw [Memory.read_write_self _ _ _ (Memory.write_wf _ _ _ h)]

/-- A stored counter leaves every other word alone. -/
theorem State.storeCounter_other (s : State) (c : CounterOp) (bits : BitVec 64) (b : Nat)
    (h : s.wordsCanonical) (hb : b ∉ counterWords c.desc c.bin) :
    (s.storeCounter c bits).array.words.read b = s.array.words.read b := by
  simp only [counterWords] at hb
  simp only [State.storeCounter]
  split <;> rename_i hw <;> simp only [hw, if_true, if_false, List.mem_cons, List.not_mem_nil, or_false,
    not_or, Bool.false_eq_true] at hb
  · rw [Memory.read_write_other _ _ _ _ (Memory.write_wf _ _ _ h) hb.2, Memory.read_write_other _ _ _ _ h hb.1]
  · rw [Memory.read_write_other _ _ _ _ h hb]

theorem State.storeCounter_wf (s : State) (c : CounterOp) (bits : BitVec 64) (h : s.wordsCanonical) :
    (s.storeCounter c bits).wordsCanonical := by
  simp only [State.wordsCanonical, State.storeCounter]
  split
  · exact Memory.write_wf _ _ _ (Memory.write_wf _ _ _ h)
  · exact Memory.write_wf _ _ _ h

end Sys2Proof.Machine
end

