-- ==== Sys2Proof/Laws/State.lean ====
section
/-! SUPPORT. One lemma per field per update of State: what the update writes, and every other field as before. -/

namespace Sys2Proof.Machine

variable (s : State)

/-! ### count -/

@[simp] theorem State.count_pending (c : StatCounter) : (s.count c).pending = s.pending := rfl
@[simp] theorem State.count_host (c : StatCounter) : (s.count c).host = s.host := rfl
@[simp] theorem State.count_hostFifo (c : StatCounter) : (s.count c).hostFifo = s.hostFifo := rfl
@[simp] theorem State.count_hostParked (c : StatCounter) : (s.count c).hostParked = s.hostParked := rfl
@[simp] theorem State.count_commands (c : StatCounter) : (s.count c).commands = s.commands := rfl
@[simp] theorem State.count_completions (c : StatCounter) : (s.count c).completions = s.completions := rfl
@[simp] theorem State.count_regionController (c : StatCounter) :
    (s.count c).regionController = s.regionController := rfl
@[simp] theorem State.count_binUnit (c : StatCounter) : (s.count c).binUnit = s.binUnit := rfl
@[simp] theorem State.count_fence (c : StatCounter) : (s.count c).fence = s.fence := rfl
@[simp] theorem State.count_retain (c : StatCounter) : (s.count c).retain = s.retain := rfl
@[simp] theorem State.count_markers (c : StatCounter) : (s.count c).markers = s.markers := rfl
@[simp] theorem State.count_lane (c : StatCounter) : (s.count c).lane = s.lane := rfl
@[simp] theorem State.count_laneControl (c : StatCounter) : (s.count c).laneControl = s.laneControl := rfl
@[simp] theorem State.count_turn (c : StatCounter) : (s.count c).turn = s.turn := rfl
@[simp] theorem State.count_regions (c : StatCounter) : (s.count c).regions = s.regions := rfl
@[simp] theorem State.count_entries (c : StatCounter) : (s.count c).entries = s.entries := rfl
@[simp] theorem State.count_mergeControl (c : StatCounter) : (s.count c).mergeControl = s.mergeControl := rfl
@[simp] theorem State.count_lingerDivider (c : StatCounter) : (s.count c).lingerDivider = s.lingerDivider := rfl
@[simp] theorem State.count_sweeps (c : StatCounter) : (s.count c).sweeps = s.sweeps := rfl
@[simp] theorem State.count_intake (c : StatCounter) : (s.count c).intake = s.intake := rfl
@[simp] theorem State.count_readout (c : StatCounter) : (s.count c).readout = s.readout := rfl
@[simp] theorem State.count_readoutSeq (c : StatCounter) : (s.count c).readoutSeq = s.readoutSeq := rfl
@[simp] theorem State.count_readoutWatermark (c : StatCounter) :
    (s.count c).readoutWatermark = s.readoutWatermark := rfl
@[simp] theorem State.count_array (c : StatCounter) : (s.count c).array = s.array := rfl
@[simp] theorem State.count_refreshTimer (c : StatCounter) : (s.count c).refreshTimer = s.refreshTimer := rfl
@[simp] theorem State.count_timebase (c : StatCounter) : (s.count c).timebase = s.timebase := rfl
@[simp] theorem State.count_due (c : StatCounter) : (s.count c).due = s.due := rfl
@[simp] theorem State.count_alerts (c : StatCounter) : (s.count c).alerts = s.alerts := rfl
@[simp] theorem State.count_eventLog (c : StatCounter) : (s.count c).eventLog = s.eventLog := rfl
@[simp] theorem State.count_moment (c : StatCounter) : (s.count c).moment = s.moment := rfl
@[simp] theorem State.count_lost (c : StatCounter) : (s.count c).lost = s.lost := rfl
@[simp] theorem State.count_stats (c : StatCounter) : (s.count c).stats = statCount s.stats c := rfl
@[simp] theorem State.count_power (c : StatCounter) : (s.count c).power = s.power := rfl

/-! ### raise -/

@[simp] theorem State.raise_pending (c : AlertCause) : (s.raise c).pending = s.pending := rfl
@[simp] theorem State.raise_host (c : AlertCause) : (s.raise c).host = s.host := rfl
@[simp] theorem State.raise_hostFifo (c : AlertCause) : (s.raise c).hostFifo = s.hostFifo := rfl
@[simp] theorem State.raise_hostParked (c : AlertCause) : (s.raise c).hostParked = s.hostParked := rfl
@[simp] theorem State.raise_commands (c : AlertCause) : (s.raise c).commands = s.commands := rfl
@[simp] theorem State.raise_completions (c : AlertCause) : (s.raise c).completions = s.completions := rfl
@[simp] theorem State.raise_regionController (c : AlertCause) :
    (s.raise c).regionController = s.regionController := rfl
@[simp] theorem State.raise_binUnit (c : AlertCause) : (s.raise c).binUnit = s.binUnit := rfl
@[simp] theorem State.raise_fence (c : AlertCause) : (s.raise c).fence = s.fence := rfl
@[simp] theorem State.raise_retain (c : AlertCause) : (s.raise c).retain = s.retain := rfl
@[simp] theorem State.raise_markers (c : AlertCause) : (s.raise c).markers = s.markers := rfl
@[simp] theorem State.raise_lane (c : AlertCause) : (s.raise c).lane = s.lane := rfl
@[simp] theorem State.raise_laneControl (c : AlertCause) : (s.raise c).laneControl = s.laneControl := rfl
@[simp] theorem State.raise_turn (c : AlertCause) : (s.raise c).turn = s.turn := rfl
@[simp] theorem State.raise_regions (c : AlertCause) : (s.raise c).regions = s.regions := rfl
@[simp] theorem State.raise_entries (c : AlertCause) : (s.raise c).entries = s.entries := rfl
@[simp] theorem State.raise_mergeControl (c : AlertCause) : (s.raise c).mergeControl = s.mergeControl := rfl
@[simp] theorem State.raise_lingerDivider (c : AlertCause) : (s.raise c).lingerDivider = s.lingerDivider := rfl
@[simp] theorem State.raise_sweeps (c : AlertCause) : (s.raise c).sweeps = s.sweeps := rfl
@[simp] theorem State.raise_intake (c : AlertCause) : (s.raise c).intake = s.intake := rfl
@[simp] theorem State.raise_readout (c : AlertCause) : (s.raise c).readout = s.readout := rfl
@[simp] theorem State.raise_readoutSeq (c : AlertCause) : (s.raise c).readoutSeq = s.readoutSeq := rfl
@[simp] theorem State.raise_readoutWatermark (c : AlertCause) :
    (s.raise c).readoutWatermark = s.readoutWatermark := rfl
@[simp] theorem State.raise_array (c : AlertCause) : (s.raise c).array = s.array := rfl
@[simp] theorem State.raise_refreshTimer (c : AlertCause) : (s.raise c).refreshTimer = s.refreshTimer := rfl
@[simp] theorem State.raise_timebase (c : AlertCause) : (s.raise c).timebase = s.timebase := rfl
@[simp] theorem State.raise_due (c : AlertCause) : (s.raise c).due = s.due := rfl
@[simp] theorem State.raise_alerts (c : AlertCause) :
    (s.raise c).alerts = { s.alerts with sticky := s.alerts.sticky ||| alertBit c } := rfl
@[simp] theorem State.raise_eventLog (c : AlertCause) : (s.raise c).eventLog = s.eventLog := rfl
@[simp] theorem State.raise_moment (c : AlertCause) : (s.raise c).moment = s.moment := rfl
@[simp] theorem State.raise_lost (c : AlertCause) : (s.raise c).lost = s.lost := rfl
@[simp] theorem State.raise_stats (c : AlertCause) : (s.raise c).stats = s.stats := rfl
@[simp] theorem State.raise_power (c : AlertCause) : (s.raise c).power = s.power := rfl

/-! ### log -/

@[simp] theorem State.log_pending (e : Event) :
    (s.log e).pending = s.pending := by
  unfold State.log; split <;> rfl
@[simp] theorem State.log_host (e : Event) : (s.log e).host = s.host := by
  unfold State.log; split <;> rfl
@[simp] theorem State.log_hostFifo (e : Event) :
    (s.log e).hostFifo = s.hostFifo := by
  unfold State.log; split <;> rfl
@[simp] theorem State.log_hostParked (e : Event) :
    (s.log e).hostParked = s.hostParked := by
  unfold State.log; split <;> rfl
@[simp] theorem State.log_commands (e : Event) :
    (s.log e).commands = s.commands := by
  unfold State.log; split <;> rfl
@[simp] theorem State.log_completions (e : Event) :
    (s.log e).completions = s.completions := by
  unfold State.log; split <;> rfl
@[simp] theorem State.log_regionController (e : Event) :
    (s.log e).regionController = s.regionController := by
  unfold State.log; split <;> rfl
@[simp] theorem State.log_binUnit (e : Event) :
    (s.log e).binUnit = s.binUnit := by
  unfold State.log; split <;> rfl
@[simp] theorem State.log_fence (e : Event) : (s.log e).fence = s.fence := by
  unfold State.log; split <;> rfl
@[simp] theorem State.log_retain (e : Event) :
    (s.log e).retain = s.retain := by
  unfold State.log; split <;> rfl
@[simp] theorem State.log_markers (e : Event) :
    (s.log e).markers = s.markers := by
  unfold State.log; split <;> rfl
@[simp] theorem State.log_lane (e : Event) : (s.log e).lane = s.lane := by
  unfold State.log; split <;> rfl
@[simp] theorem State.log_laneControl (e : Event) :
    (s.log e).laneControl = s.laneControl := by
  unfold State.log; split <;> rfl
@[simp] theorem State.log_turn (e : Event) : (s.log e).turn = s.turn := by
  unfold State.log; split <;> rfl
@[simp] theorem State.log_regions (e : Event) :
    (s.log e).regions = s.regions := by
  unfold State.log; split <;> rfl
@[simp] theorem State.log_entries (e : Event) :
    (s.log e).entries = s.entries := by
  unfold State.log; split <;> rfl
@[simp] theorem State.log_mergeControl (e : Event) :
    (s.log e).mergeControl = s.mergeControl := by
  unfold State.log; split <;> rfl
@[simp] theorem State.log_lingerDivider (e : Event) :
    (s.log e).lingerDivider = s.lingerDivider := by
  unfold State.log; split <;> rfl
@[simp] theorem State.log_sweeps (e : Event) :
    (s.log e).sweeps = s.sweeps := by
  unfold State.log; split <;> rfl
@[simp] theorem State.log_intake (e : Event) :
    (s.log e).intake = s.intake := by
  unfold State.log; split <;> rfl
@[simp] theorem State.log_readout (e : Event) :
    (s.log e).readout = s.readout := by
  unfold State.log; split <;> rfl
@[simp] theorem State.log_readoutSeq (e : Event) :
    (s.log e).readoutSeq = s.readoutSeq := by
  unfold State.log; split <;> rfl
@[simp] theorem State.log_readoutWatermark (e : Event) :
    (s.log e).readoutWatermark = s.readoutWatermark := by
  unfold State.log; split <;> rfl
@[simp] theorem State.log_array (e : Event) : (s.log e).array = s.array := by
  unfold State.log; split <;> rfl
@[simp] theorem State.log_refreshTimer (e : Event) :
    (s.log e).refreshTimer = s.refreshTimer := by
  unfold State.log; split <;> rfl
@[simp] theorem State.log_timebase (e : Event) :
    (s.log e).timebase = s.timebase := by
  unfold State.log; split <;> rfl
@[simp] theorem State.log_due (e : Event) : (s.log e).due = s.due := by
  unfold State.log; split <;> rfl
@[simp] theorem State.log_alerts (e : Event) :
    (s.log e).alerts = s.alerts := by
  unfold State.log; split <;> rfl
@[simp] theorem State.log_eventLog (e : Event) :
    (s.log e).eventLog =
      if s.eventLog.length < Config.eventSlots then s.logged e else (s.logged e).dropLast := by
  unfold State.log; split <;> rfl
@[simp] theorem State.log_moment (e : Event) :
    (s.log e).moment = if s.eventLog.length < Config.eventSlots then s.moment + 1 else s.moment := by
  unfold State.log; split <;> rfl
@[simp] theorem State.log_lost (e : Event) :
    (s.log e).lost = if s.eventLog.length < Config.eventSlots then s.lost else satInc s.lost := by
  unfold State.log; split <;> rfl
@[simp] theorem State.log_stats (e : Event) : (s.log e).stats = s.stats := by
  unfold State.log; split <;> rfl
@[simp] theorem State.log_power (e : Event) : (s.log e).power = s.power := by
  unfold State.log; split <;> rfl

/-! ### setRegion -/

@[simp] theorem State.setRegion_pending (r : RegionIx) (reg : Region) :
    (s.setRegion r reg).pending = s.pending := rfl
@[simp] theorem State.setRegion_host (r : RegionIx) (reg : Region) : (s.setRegion r reg).host = s.host := rfl
@[simp] theorem State.setRegion_hostFifo (r : RegionIx) (reg : Region) :
    (s.setRegion r reg).hostFifo = s.hostFifo := rfl
@[simp] theorem State.setRegion_hostParked (r : RegionIx) (reg : Region) :
    (s.setRegion r reg).hostParked = s.hostParked := rfl
@[simp] theorem State.setRegion_commands (r : RegionIx) (reg : Region) :
    (s.setRegion r reg).commands = s.commands := rfl
@[simp] theorem State.setRegion_completions (r : RegionIx) (reg : Region) :
    (s.setRegion r reg).completions = s.completions := rfl
@[simp] theorem State.setRegion_regionController (r : RegionIx) (reg : Region) :
    (s.setRegion r reg).regionController = s.regionController := rfl
@[simp] theorem State.setRegion_binUnit (r : RegionIx) (reg : Region) :
    (s.setRegion r reg).binUnit = s.binUnit := rfl
@[simp] theorem State.setRegion_fence (r : RegionIx) (reg : Region) : (s.setRegion r reg).fence = s.fence := rfl
@[simp] theorem State.setRegion_retain (r : RegionIx) (reg : Region) :
    (s.setRegion r reg).retain = s.retain := rfl
@[simp] theorem State.setRegion_markers (r : RegionIx) (reg : Region) :
    (s.setRegion r reg).markers = s.markers := rfl
@[simp] theorem State.setRegion_lane (r : RegionIx) (reg : Region) : (s.setRegion r reg).lane = s.lane := rfl
@[simp] theorem State.setRegion_laneControl (r : RegionIx) (reg : Region) :
    (s.setRegion r reg).laneControl = s.laneControl := rfl
@[simp] theorem State.setRegion_turn (r : RegionIx) (reg : Region) : (s.setRegion r reg).turn = s.turn := rfl
@[simp] theorem State.setRegion_regions (r : RegionIx) (reg : Region) :
    (s.setRegion r reg).regions = s.regions.set r.toNat reg r.isLt := rfl
@[simp] theorem State.setRegion_entries (r : RegionIx) (reg : Region) :
    (s.setRegion r reg).entries = s.entries := rfl
@[simp] theorem State.setRegion_mergeControl (r : RegionIx) (reg : Region) :
    (s.setRegion r reg).mergeControl = s.mergeControl := rfl
@[simp] theorem State.setRegion_lingerDivider (r : RegionIx) (reg : Region) :
    (s.setRegion r reg).lingerDivider = s.lingerDivider := rfl
@[simp] theorem State.setRegion_sweeps (r : RegionIx) (reg : Region) :
    (s.setRegion r reg).sweeps = s.sweeps := rfl
@[simp] theorem State.setRegion_intake (r : RegionIx) (reg : Region) :
    (s.setRegion r reg).intake = s.intake := rfl
@[simp] theorem State.setRegion_readout (r : RegionIx) (reg : Region) :
    (s.setRegion r reg).readout = s.readout := rfl
@[simp] theorem State.setRegion_readoutSeq (r : RegionIx) (reg : Region) :
    (s.setRegion r reg).readoutSeq = s.readoutSeq := rfl
@[simp] theorem State.setRegion_readoutWatermark (r : RegionIx) (reg : Region) :
    (s.setRegion r reg).readoutWatermark = s.readoutWatermark := rfl
@[simp] theorem State.setRegion_array (r : RegionIx) (reg : Region) : (s.setRegion r reg).array = s.array := rfl
@[simp] theorem State.setRegion_refreshTimer (r : RegionIx) (reg : Region) :
    (s.setRegion r reg).refreshTimer = s.refreshTimer := rfl
@[simp] theorem State.setRegion_timebase (r : RegionIx) (reg : Region) :
    (s.setRegion r reg).timebase = s.timebase := rfl
@[simp] theorem State.setRegion_due (r : RegionIx) (reg : Region) : (s.setRegion r reg).due = s.due := rfl
@[simp] theorem State.setRegion_alerts (r : RegionIx) (reg : Region) :
    (s.setRegion r reg).alerts = s.alerts := rfl
@[simp] theorem State.setRegion_eventLog (r : RegionIx) (reg : Region) :
    (s.setRegion r reg).eventLog = s.eventLog := rfl
@[simp] theorem State.setRegion_moment (r : RegionIx) (reg : Region) :
    (s.setRegion r reg).moment = s.moment := rfl
@[simp] theorem State.setRegion_lost (r : RegionIx) (reg : Region) : (s.setRegion r reg).lost = s.lost := rfl
@[simp] theorem State.setRegion_stats (r : RegionIx) (reg : Region) : (s.setRegion r reg).stats = s.stats := rfl
@[simp] theorem State.setRegion_power (r : RegionIx) (reg : Region) : (s.setRegion r reg).power = s.power := rfl

/-! ### sealWhere -/

@[simp] theorem State.sealWhere_pending (p : Entry → Bool) : (s.sealWhere p).pending = s.pending := rfl
@[simp] theorem State.sealWhere_host (p : Entry → Bool) : (s.sealWhere p).host = s.host := rfl
@[simp] theorem State.sealWhere_hostFifo (p : Entry → Bool) : (s.sealWhere p).hostFifo = s.hostFifo := rfl
@[simp] theorem State.sealWhere_hostParked (p : Entry → Bool) : (s.sealWhere p).hostParked = s.hostParked := rfl
@[simp] theorem State.sealWhere_commands (p : Entry → Bool) : (s.sealWhere p).commands = s.commands := rfl
@[simp] theorem State.sealWhere_completions (p : Entry → Bool) :
    (s.sealWhere p).completions = s.completions := rfl
@[simp] theorem State.sealWhere_regionController (p : Entry → Bool) :
    (s.sealWhere p).regionController = s.regionController := rfl
@[simp] theorem State.sealWhere_binUnit (p : Entry → Bool) : (s.sealWhere p).binUnit = s.binUnit := rfl
@[simp] theorem State.sealWhere_fence (p : Entry → Bool) : (s.sealWhere p).fence = s.fence := rfl
@[simp] theorem State.sealWhere_retain (p : Entry → Bool) : (s.sealWhere p).retain = s.retain := rfl
@[simp] theorem State.sealWhere_markers (p : Entry → Bool) : (s.sealWhere p).markers = s.markers := rfl
@[simp] theorem State.sealWhere_lane (p : Entry → Bool) : (s.sealWhere p).lane = s.lane := rfl
@[simp] theorem State.sealWhere_laneControl (p : Entry → Bool) :
    (s.sealWhere p).laneControl = s.laneControl := rfl
@[simp] theorem State.sealWhere_turn (p : Entry → Bool) : (s.sealWhere p).turn = s.turn := rfl
@[simp] theorem State.sealWhere_regions (p : Entry → Bool) : (s.sealWhere p).regions = s.regions := rfl
@[simp] theorem State.sealWhere_entries (p : Entry → Bool) :
    (s.sealWhere p).entries = s.entries.map fun e => if p e then { e with isSealed := true } else e := rfl
@[simp] theorem State.sealWhere_mergeControl (p : Entry → Bool) :
    (s.sealWhere p).mergeControl = s.mergeControl := rfl
@[simp] theorem State.sealWhere_lingerDivider (p : Entry → Bool) :
    (s.sealWhere p).lingerDivider = s.lingerDivider := rfl
@[simp] theorem State.sealWhere_sweeps (p : Entry → Bool) : (s.sealWhere p).sweeps = s.sweeps := rfl
@[simp] theorem State.sealWhere_intake (p : Entry → Bool) : (s.sealWhere p).intake = s.intake := rfl
@[simp] theorem State.sealWhere_readout (p : Entry → Bool) : (s.sealWhere p).readout = s.readout := rfl
@[simp] theorem State.sealWhere_readoutSeq (p : Entry → Bool) : (s.sealWhere p).readoutSeq = s.readoutSeq := rfl
@[simp] theorem State.sealWhere_readoutWatermark (p : Entry → Bool) :
    (s.sealWhere p).readoutWatermark = s.readoutWatermark := rfl
@[simp] theorem State.sealWhere_array (p : Entry → Bool) : (s.sealWhere p).array = s.array := rfl
@[simp] theorem State.sealWhere_refreshTimer (p : Entry → Bool) :
    (s.sealWhere p).refreshTimer = s.refreshTimer := rfl
@[simp] theorem State.sealWhere_timebase (p : Entry → Bool) : (s.sealWhere p).timebase = s.timebase := rfl
@[simp] theorem State.sealWhere_due (p : Entry → Bool) : (s.sealWhere p).due = s.due := rfl
@[simp] theorem State.sealWhere_alerts (p : Entry → Bool) : (s.sealWhere p).alerts = s.alerts := rfl
@[simp] theorem State.sealWhere_eventLog (p : Entry → Bool) : (s.sealWhere p).eventLog = s.eventLog := rfl
@[simp] theorem State.sealWhere_moment (p : Entry → Bool) : (s.sealWhere p).moment = s.moment := rfl
@[simp] theorem State.sealWhere_lost (p : Entry → Bool) : (s.sealWhere p).lost = s.lost := rfl
@[simp] theorem State.sealWhere_stats (p : Entry → Bool) : (s.sealWhere p).stats = s.stats := rfl
@[simp] theorem State.sealWhere_power (p : Entry → Bool) : (s.sealWhere p).power = s.power := rfl

/-! ### mapPresent -/

@[simp] theorem State.mapPresent_pending (f : Entry → Entry) : (s.mapPresent f).pending = s.pending := rfl
@[simp] theorem State.mapPresent_host (f : Entry → Entry) : (s.mapPresent f).host = s.host := rfl
@[simp] theorem State.mapPresent_hostFifo (f : Entry → Entry) : (s.mapPresent f).hostFifo = s.hostFifo := rfl
@[simp] theorem State.mapPresent_hostParked (f : Entry → Entry) :
    (s.mapPresent f).hostParked = s.hostParked := rfl
@[simp] theorem State.mapPresent_commands (f : Entry → Entry) : (s.mapPresent f).commands = s.commands := rfl
@[simp] theorem State.mapPresent_completions (f : Entry → Entry) :
    (s.mapPresent f).completions = s.completions := rfl
@[simp] theorem State.mapPresent_regionController (f : Entry → Entry) :
    (s.mapPresent f).regionController = s.regionController := rfl
@[simp] theorem State.mapPresent_binUnit (f : Entry → Entry) : (s.mapPresent f).binUnit = s.binUnit := rfl
@[simp] theorem State.mapPresent_fence (f : Entry → Entry) : (s.mapPresent f).fence = s.fence := rfl
@[simp] theorem State.mapPresent_retain (f : Entry → Entry) : (s.mapPresent f).retain = s.retain := rfl
@[simp] theorem State.mapPresent_markers (f : Entry → Entry) : (s.mapPresent f).markers = s.markers := rfl
@[simp] theorem State.mapPresent_lane (f : Entry → Entry) : (s.mapPresent f).lane = s.lane := rfl
@[simp] theorem State.mapPresent_laneControl (f : Entry → Entry) :
    (s.mapPresent f).laneControl = s.laneControl := rfl
@[simp] theorem State.mapPresent_turn (f : Entry → Entry) : (s.mapPresent f).turn = s.turn := rfl
@[simp] theorem State.mapPresent_regions (f : Entry → Entry) : (s.mapPresent f).regions = s.regions := rfl
@[simp] theorem State.mapPresent_entries (f : Entry → Entry) : (s.mapPresent f).entries = s.entries.map f := rfl
@[simp] theorem State.mapPresent_mergeControl (f : Entry → Entry) :
    (s.mapPresent f).mergeControl = s.mergeControl := rfl
@[simp] theorem State.mapPresent_lingerDivider (f : Entry → Entry) :
    (s.mapPresent f).lingerDivider = s.lingerDivider := rfl
@[simp] theorem State.mapPresent_sweeps (f : Entry → Entry) : (s.mapPresent f).sweeps = s.sweeps := rfl
@[simp] theorem State.mapPresent_intake (f : Entry → Entry) : (s.mapPresent f).intake = s.intake := rfl
@[simp] theorem State.mapPresent_readout (f : Entry → Entry) : (s.mapPresent f).readout = s.readout := rfl
@[simp] theorem State.mapPresent_readoutSeq (f : Entry → Entry) :
    (s.mapPresent f).readoutSeq = s.readoutSeq := rfl
@[simp] theorem State.mapPresent_readoutWatermark (f : Entry → Entry) :
    (s.mapPresent f).readoutWatermark = s.readoutWatermark := rfl
@[simp] theorem State.mapPresent_array (f : Entry → Entry) :
    (s.mapPresent f).array = { s.array with op := s.array.op.map (ArrayOp.mapWithdrawn f) } := rfl
@[simp] theorem State.mapPresent_refreshTimer (f : Entry → Entry) :
    (s.mapPresent f).refreshTimer = s.refreshTimer := rfl
@[simp] theorem State.mapPresent_timebase (f : Entry → Entry) : (s.mapPresent f).timebase = s.timebase := rfl
@[simp] theorem State.mapPresent_due (f : Entry → Entry) : (s.mapPresent f).due = s.due := rfl
@[simp] theorem State.mapPresent_alerts (f : Entry → Entry) : (s.mapPresent f).alerts = s.alerts := rfl
@[simp] theorem State.mapPresent_eventLog (f : Entry → Entry) : (s.mapPresent f).eventLog = s.eventLog := rfl
@[simp] theorem State.mapPresent_moment (f : Entry → Entry) : (s.mapPresent f).moment = s.moment := rfl
@[simp] theorem State.mapPresent_lost (f : Entry → Entry) : (s.mapPresent f).lost = s.lost := rfl
@[simp] theorem State.mapPresent_stats (f : Entry → Entry) : (s.mapPresent f).stats = s.stats := rfl
@[simp] theorem State.mapPresent_power (f : Entry → Entry) : (s.mapPresent f).power = s.power := rfl

/-! ### withdraw -/

@[simp] theorem State.withdraw_pending (p : Entry → Bool) : (s.withdraw p).pending = s.pending := rfl
@[simp] theorem State.withdraw_host (p : Entry → Bool) : (s.withdraw p).host = s.host := rfl
@[simp] theorem State.withdraw_hostFifo (p : Entry → Bool) : (s.withdraw p).hostFifo = s.hostFifo := rfl
@[simp] theorem State.withdraw_hostParked (p : Entry → Bool) : (s.withdraw p).hostParked = s.hostParked := rfl
@[simp] theorem State.withdraw_commands (p : Entry → Bool) : (s.withdraw p).commands = s.commands := rfl
@[simp] theorem State.withdraw_completions (p : Entry → Bool) :
    (s.withdraw p).completions = s.completions := rfl
@[simp] theorem State.withdraw_regionController (p : Entry → Bool) :
    (s.withdraw p).regionController = s.regionController := rfl
@[simp] theorem State.withdraw_binUnit (p : Entry → Bool) : (s.withdraw p).binUnit = s.binUnit := rfl
@[simp] theorem State.withdraw_fence (p : Entry → Bool) : (s.withdraw p).fence = s.fence := rfl
@[simp] theorem State.withdraw_retain (p : Entry → Bool) : (s.withdraw p).retain = s.retain := rfl
@[simp] theorem State.withdraw_markers (p : Entry → Bool) : (s.withdraw p).markers = s.markers := rfl
@[simp] theorem State.withdraw_lane (p : Entry → Bool) : (s.withdraw p).lane = s.lane := rfl
@[simp] theorem State.withdraw_laneControl (p : Entry → Bool) :
    (s.withdraw p).laneControl = s.laneControl := rfl
@[simp] theorem State.withdraw_turn (p : Entry → Bool) : (s.withdraw p).turn = s.turn := rfl
@[simp] theorem State.withdraw_regions (p : Entry → Bool) : (s.withdraw p).regions = s.regions := rfl
@[simp] theorem State.withdraw_entries (p : Entry → Bool) :
    (s.withdraw p).entries = s.entries.filter fun e => !p e := rfl
@[simp] theorem State.withdraw_mergeControl (p : Entry → Bool) :
    (s.withdraw p).mergeControl = s.mergeControl := rfl
@[simp] theorem State.withdraw_lingerDivider (p : Entry → Bool) :
    (s.withdraw p).lingerDivider = s.lingerDivider := rfl
@[simp] theorem State.withdraw_sweeps (p : Entry → Bool) : (s.withdraw p).sweeps = s.sweeps := rfl
@[simp] theorem State.withdraw_intake (p : Entry → Bool) : (s.withdraw p).intake = s.intake := rfl
@[simp] theorem State.withdraw_readout (p : Entry → Bool) : (s.withdraw p).readout = s.readout := rfl
@[simp] theorem State.withdraw_readoutSeq (p : Entry → Bool) : (s.withdraw p).readoutSeq = s.readoutSeq := rfl
@[simp] theorem State.withdraw_readoutWatermark (p : Entry → Bool) :
    (s.withdraw p).readoutWatermark = s.readoutWatermark := rfl
@[simp] theorem State.withdraw_array (p : Entry → Bool) : (s.withdraw p).array = s.array := rfl
@[simp] theorem State.withdraw_refreshTimer (p : Entry → Bool) :
    (s.withdraw p).refreshTimer = s.refreshTimer := rfl
@[simp] theorem State.withdraw_timebase (p : Entry → Bool) : (s.withdraw p).timebase = s.timebase := rfl
@[simp] theorem State.withdraw_due (p : Entry → Bool) : (s.withdraw p).due = s.due := rfl
@[simp] theorem State.withdraw_alerts (p : Entry → Bool) : (s.withdraw p).alerts = s.alerts := rfl
@[simp] theorem State.withdraw_eventLog (p : Entry → Bool) : (s.withdraw p).eventLog = s.eventLog := rfl
@[simp] theorem State.withdraw_moment (p : Entry → Bool) : (s.withdraw p).moment = s.moment := rfl
@[simp] theorem State.withdraw_lost (p : Entry → Bool) : (s.withdraw p).lost = s.lost := rfl
@[simp] theorem State.withdraw_stats (p : Entry → Bool) : (s.withdraw p).stats = s.stats := rfl
@[simp] theorem State.withdraw_power (p : Entry → Bool) : (s.withdraw p).power = s.power := rfl

/-! ### startOp -/

@[simp] theorem State.startOp_pending (op : ArrayOp) : (s.startOp op).pending = s.pending := rfl
@[simp] theorem State.startOp_host (op : ArrayOp) : (s.startOp op).host = s.host := rfl
@[simp] theorem State.startOp_hostFifo (op : ArrayOp) : (s.startOp op).hostFifo = s.hostFifo := rfl
@[simp] theorem State.startOp_hostParked (op : ArrayOp) : (s.startOp op).hostParked = s.hostParked := rfl
@[simp] theorem State.startOp_commands (op : ArrayOp) : (s.startOp op).commands = s.commands := rfl
@[simp] theorem State.startOp_completions (op : ArrayOp) : (s.startOp op).completions = s.completions := rfl
@[simp] theorem State.startOp_regionController (op : ArrayOp) :
    (s.startOp op).regionController = s.regionController := rfl
@[simp] theorem State.startOp_binUnit (op : ArrayOp) : (s.startOp op).binUnit = s.binUnit := rfl
@[simp] theorem State.startOp_fence (op : ArrayOp) : (s.startOp op).fence = s.fence := rfl
@[simp] theorem State.startOp_retain (op : ArrayOp) : (s.startOp op).retain = s.retain := rfl
@[simp] theorem State.startOp_markers (op : ArrayOp) : (s.startOp op).markers = s.markers := rfl
@[simp] theorem State.startOp_lane (op : ArrayOp) : (s.startOp op).lane = s.lane := rfl
@[simp] theorem State.startOp_laneControl (op : ArrayOp) : (s.startOp op).laneControl = s.laneControl := rfl
@[simp] theorem State.startOp_turn (op : ArrayOp) : (s.startOp op).turn = s.turn := rfl
@[simp] theorem State.startOp_regions (op : ArrayOp) : (s.startOp op).regions = s.regions := rfl
@[simp] theorem State.startOp_entries (op : ArrayOp) : (s.startOp op).entries = s.entries := rfl
@[simp] theorem State.startOp_mergeControl (op : ArrayOp) : (s.startOp op).mergeControl = s.mergeControl := rfl
@[simp] theorem State.startOp_lingerDivider (op : ArrayOp) :
    (s.startOp op).lingerDivider = s.lingerDivider := rfl
@[simp] theorem State.startOp_sweeps (op : ArrayOp) : (s.startOp op).sweeps = s.sweeps := rfl
@[simp] theorem State.startOp_intake (op : ArrayOp) : (s.startOp op).intake = s.intake := rfl
@[simp] theorem State.startOp_readout (op : ArrayOp) : (s.startOp op).readout = s.readout := rfl
@[simp] theorem State.startOp_readoutSeq (op : ArrayOp) : (s.startOp op).readoutSeq = s.readoutSeq := rfl
@[simp] theorem State.startOp_readoutWatermark (op : ArrayOp) :
    (s.startOp op).readoutWatermark = s.readoutWatermark := rfl
@[simp] theorem State.startOp_array (op : ArrayOp) :
    (s.startOp op).array = { s.array with op := some op, eccRearmed := false } := rfl
@[simp] theorem State.startOp_refreshTimer (op : ArrayOp) : (s.startOp op).refreshTimer = s.refreshTimer := rfl
@[simp] theorem State.startOp_timebase (op : ArrayOp) : (s.startOp op).timebase = s.timebase := rfl
@[simp] theorem State.startOp_due (op : ArrayOp) : (s.startOp op).due = s.due := rfl
@[simp] theorem State.startOp_alerts (op : ArrayOp) : (s.startOp op).alerts = s.alerts := rfl
@[simp] theorem State.startOp_eventLog (op : ArrayOp) : (s.startOp op).eventLog = s.eventLog := rfl
@[simp] theorem State.startOp_moment (op : ArrayOp) : (s.startOp op).moment = s.moment := rfl
@[simp] theorem State.startOp_lost (op : ArrayOp) : (s.startOp op).lost = s.lost := rfl
@[simp] theorem State.startOp_stats (op : ArrayOp) : (s.startOp op).stats = s.stats := rfl
@[simp] theorem State.startOp_power (op : ArrayOp) : (s.startOp op).power = s.power := rfl

/-! ### endOp -/

@[simp] theorem State.endOp_pending : (s.endOp).pending = s.pending := rfl
@[simp] theorem State.endOp_host : (s.endOp).host = s.host := rfl
@[simp] theorem State.endOp_hostFifo : (s.endOp).hostFifo = s.hostFifo := rfl
@[simp] theorem State.endOp_hostParked : (s.endOp).hostParked = s.hostParked := rfl
@[simp] theorem State.endOp_commands : (s.endOp).commands = s.commands := rfl
@[simp] theorem State.endOp_completions : (s.endOp).completions = s.completions := rfl
@[simp] theorem State.endOp_regionController : (s.endOp).regionController = s.regionController := rfl
@[simp] theorem State.endOp_binUnit : (s.endOp).binUnit = s.binUnit := rfl
@[simp] theorem State.endOp_fence : (s.endOp).fence = s.fence := rfl
@[simp] theorem State.endOp_retain : (s.endOp).retain = s.retain := rfl
@[simp] theorem State.endOp_markers : (s.endOp).markers = s.markers := rfl
@[simp] theorem State.endOp_lane : (s.endOp).lane = s.lane := rfl
@[simp] theorem State.endOp_laneControl : (s.endOp).laneControl = s.laneControl := rfl
@[simp] theorem State.endOp_turn : (s.endOp).turn = s.turn := rfl
@[simp] theorem State.endOp_regions : (s.endOp).regions = s.regions := rfl
@[simp] theorem State.endOp_entries : (s.endOp).entries = s.entries := rfl
@[simp] theorem State.endOp_mergeControl : (s.endOp).mergeControl = s.mergeControl := rfl
@[simp] theorem State.endOp_lingerDivider : (s.endOp).lingerDivider = s.lingerDivider := rfl
@[simp] theorem State.endOp_sweeps : (s.endOp).sweeps = s.sweeps := rfl
@[simp] theorem State.endOp_intake : (s.endOp).intake = s.intake := rfl
@[simp] theorem State.endOp_readout : (s.endOp).readout = s.readout := rfl
@[simp] theorem State.endOp_readoutSeq : (s.endOp).readoutSeq = s.readoutSeq := rfl
@[simp] theorem State.endOp_readoutWatermark : (s.endOp).readoutWatermark = s.readoutWatermark := rfl
@[simp] theorem State.endOp_array : (s.endOp).array = { s.array with op := none } := rfl
@[simp] theorem State.endOp_refreshTimer : (s.endOp).refreshTimer = s.refreshTimer := rfl
@[simp] theorem State.endOp_timebase : (s.endOp).timebase = s.timebase := rfl
@[simp] theorem State.endOp_due : (s.endOp).due = s.due := rfl
@[simp] theorem State.endOp_alerts : (s.endOp).alerts = s.alerts := rfl
@[simp] theorem State.endOp_eventLog : (s.endOp).eventLog = s.eventLog := rfl
@[simp] theorem State.endOp_moment : (s.endOp).moment = s.moment := rfl
@[simp] theorem State.endOp_lost : (s.endOp).lost = s.lost := rfl
@[simp] theorem State.endOp_stats : (s.endOp).stats = s.stats := rfl
@[simp] theorem State.endOp_power : (s.endOp).power = s.power := rfl

/-! ### post -/

@[simp] theorem State.post_pending (c : Completion) : (s.post c).pending = s.pending := rfl
@[simp] theorem State.post_host (c : Completion) : (s.post c).host = s.host := rfl
@[simp] theorem State.post_hostFifo (c : Completion) : (s.post c).hostFifo = s.hostFifo := rfl
@[simp] theorem State.post_hostParked (c : Completion) : (s.post c).hostParked = s.hostParked := rfl
@[simp] theorem State.post_commands (c : Completion) : (s.post c).commands = s.commands := rfl
@[simp] theorem State.post_completions (c : Completion) : (s.post c).completions = s.completions ++ [c] := rfl
@[simp] theorem State.post_regionController (c : Completion) :
    (s.post c).regionController = s.regionController := rfl
@[simp] theorem State.post_binUnit (c : Completion) : (s.post c).binUnit = s.binUnit := rfl
@[simp] theorem State.post_fence (c : Completion) : (s.post c).fence = s.fence := rfl
@[simp] theorem State.post_retain (c : Completion) : (s.post c).retain = s.retain := rfl
@[simp] theorem State.post_markers (c : Completion) : (s.post c).markers = s.markers := rfl
@[simp] theorem State.post_lane (c : Completion) : (s.post c).lane = s.lane := rfl
@[simp] theorem State.post_laneControl (c : Completion) : (s.post c).laneControl = s.laneControl := rfl
@[simp] theorem State.post_turn (c : Completion) : (s.post c).turn = s.turn := rfl
@[simp] theorem State.post_regions (c : Completion) : (s.post c).regions = s.regions := rfl
@[simp] theorem State.post_entries (c : Completion) : (s.post c).entries = s.entries := rfl
@[simp] theorem State.post_mergeControl (c : Completion) : (s.post c).mergeControl = s.mergeControl := rfl
@[simp] theorem State.post_lingerDivider (c : Completion) : (s.post c).lingerDivider = s.lingerDivider := rfl
@[simp] theorem State.post_sweeps (c : Completion) : (s.post c).sweeps = s.sweeps := rfl
@[simp] theorem State.post_intake (c : Completion) : (s.post c).intake = s.intake := rfl
@[simp] theorem State.post_readout (c : Completion) : (s.post c).readout = s.readout := rfl
@[simp] theorem State.post_readoutSeq (c : Completion) : (s.post c).readoutSeq = s.readoutSeq := rfl
@[simp] theorem State.post_readoutWatermark (c : Completion) :
    (s.post c).readoutWatermark = s.readoutWatermark := rfl
@[simp] theorem State.post_array (c : Completion) : (s.post c).array = s.array := rfl
@[simp] theorem State.post_refreshTimer (c : Completion) : (s.post c).refreshTimer = s.refreshTimer := rfl
@[simp] theorem State.post_timebase (c : Completion) : (s.post c).timebase = s.timebase := rfl
@[simp] theorem State.post_due (c : Completion) : (s.post c).due = s.due := rfl
@[simp] theorem State.post_alerts (c : Completion) : (s.post c).alerts = s.alerts := rfl
@[simp] theorem State.post_eventLog (c : Completion) : (s.post c).eventLog = s.eventLog := rfl
@[simp] theorem State.post_moment (c : Completion) : (s.post c).moment = s.moment := rfl
@[simp] theorem State.post_lost (c : Completion) : (s.post c).lost = s.lost := rfl
@[simp] theorem State.post_stats (c : Completion) : (s.post c).stats = s.stats := rfl
@[simp] theorem State.post_power (c : Completion) : (s.post c).power = s.power := rfl

/-! ### dequeued -/

@[simp] theorem State.dequeued_pending : (s.dequeued).pending = s.pending := rfl
@[simp] theorem State.dequeued_host : (s.dequeued).host = s.host := rfl
@[simp] theorem State.dequeued_hostFifo : (s.dequeued).hostFifo = s.hostFifo := rfl
@[simp] theorem State.dequeued_hostParked : (s.dequeued).hostParked = s.hostParked := rfl
@[simp] theorem State.dequeued_commands : (s.dequeued).commands = s.commands.tail := rfl
@[simp] theorem State.dequeued_completions : (s.dequeued).completions = s.completions := rfl
@[simp] theorem State.dequeued_regionController : (s.dequeued).regionController = s.regionController := rfl
@[simp] theorem State.dequeued_binUnit : (s.dequeued).binUnit = s.binUnit := rfl
@[simp] theorem State.dequeued_fence : (s.dequeued).fence = s.fence := rfl
@[simp] theorem State.dequeued_retain : (s.dequeued).retain = s.retain := rfl
@[simp] theorem State.dequeued_markers : (s.dequeued).markers = s.markers := rfl
@[simp] theorem State.dequeued_lane : (s.dequeued).lane = s.lane := rfl
@[simp] theorem State.dequeued_laneControl : (s.dequeued).laneControl = s.laneControl := rfl
@[simp] theorem State.dequeued_turn : (s.dequeued).turn = s.turn := rfl
@[simp] theorem State.dequeued_regions : (s.dequeued).regions = s.regions := rfl
@[simp] theorem State.dequeued_entries : (s.dequeued).entries = s.entries := rfl
@[simp] theorem State.dequeued_mergeControl : (s.dequeued).mergeControl = s.mergeControl := rfl
@[simp] theorem State.dequeued_lingerDivider : (s.dequeued).lingerDivider = s.lingerDivider := rfl
@[simp] theorem State.dequeued_sweeps : (s.dequeued).sweeps = s.sweeps := rfl
@[simp] theorem State.dequeued_intake : (s.dequeued).intake = s.intake := rfl
@[simp] theorem State.dequeued_readout : (s.dequeued).readout = s.readout := rfl
@[simp] theorem State.dequeued_readoutSeq : (s.dequeued).readoutSeq = s.readoutSeq := rfl
@[simp] theorem State.dequeued_readoutWatermark : (s.dequeued).readoutWatermark = s.readoutWatermark := rfl
@[simp] theorem State.dequeued_array : (s.dequeued).array = s.array := rfl
@[simp] theorem State.dequeued_refreshTimer : (s.dequeued).refreshTimer = s.refreshTimer := rfl
@[simp] theorem State.dequeued_timebase : (s.dequeued).timebase = s.timebase := rfl
@[simp] theorem State.dequeued_due : (s.dequeued).due = s.due := rfl
@[simp] theorem State.dequeued_alerts : (s.dequeued).alerts = s.alerts := rfl
@[simp] theorem State.dequeued_eventLog : (s.dequeued).eventLog = s.eventLog := rfl
@[simp] theorem State.dequeued_moment : (s.dequeued).moment = s.moment := rfl
@[simp] theorem State.dequeued_lost : (s.dequeued).lost = s.lost := rfl
@[simp] theorem State.dequeued_stats : (s.dequeued).stats = s.stats := rfl
@[simp] theorem State.dequeued_power : (s.dequeued).power = s.power := rfl

/-! ### placeRecord -/

@[simp] theorem State.placeRecord_pending (r : ReadoutRecord) : (s.placeRecord r).pending = s.pending := rfl
@[simp] theorem State.placeRecord_host (r : ReadoutRecord) : (s.placeRecord r).host = s.host := rfl
@[simp] theorem State.placeRecord_hostFifo (r : ReadoutRecord) : (s.placeRecord r).hostFifo = s.hostFifo := rfl
@[simp] theorem State.placeRecord_hostParked (r : ReadoutRecord) :
    (s.placeRecord r).hostParked = s.hostParked := rfl
@[simp] theorem State.placeRecord_commands (r : ReadoutRecord) : (s.placeRecord r).commands = s.commands := rfl
@[simp] theorem State.placeRecord_completions (r : ReadoutRecord) :
    (s.placeRecord r).completions = s.completions := rfl
@[simp] theorem State.placeRecord_regionController (r : ReadoutRecord) :
    (s.placeRecord r).regionController = s.regionController := rfl
@[simp] theorem State.placeRecord_binUnit (r : ReadoutRecord) : (s.placeRecord r).binUnit = s.binUnit := rfl
@[simp] theorem State.placeRecord_fence (r : ReadoutRecord) : (s.placeRecord r).fence = s.fence := rfl
@[simp] theorem State.placeRecord_retain (r : ReadoutRecord) : (s.placeRecord r).retain = s.retain := rfl
@[simp] theorem State.placeRecord_markers (r : ReadoutRecord) : (s.placeRecord r).markers = s.markers := rfl
@[simp] theorem State.placeRecord_lane (r : ReadoutRecord) : (s.placeRecord r).lane = s.lane := rfl
@[simp] theorem State.placeRecord_laneControl (r : ReadoutRecord) :
    (s.placeRecord r).laneControl = s.laneControl := rfl
@[simp] theorem State.placeRecord_turn (r : ReadoutRecord) : (s.placeRecord r).turn = s.turn := rfl
@[simp] theorem State.placeRecord_regions (r : ReadoutRecord) : (s.placeRecord r).regions = s.regions := rfl
@[simp] theorem State.placeRecord_entries (r : ReadoutRecord) : (s.placeRecord r).entries = s.entries := rfl
@[simp] theorem State.placeRecord_mergeControl (r : ReadoutRecord) :
    (s.placeRecord r).mergeControl = s.mergeControl := rfl
@[simp] theorem State.placeRecord_lingerDivider (r : ReadoutRecord) :
    (s.placeRecord r).lingerDivider = s.lingerDivider := rfl
@[simp] theorem State.placeRecord_sweeps (r : ReadoutRecord) : (s.placeRecord r).sweeps = s.sweeps := rfl
@[simp] theorem State.placeRecord_intake (r : ReadoutRecord) : (s.placeRecord r).intake = s.intake := rfl
@[simp] theorem State.placeRecord_readout (r : ReadoutRecord) :
    (s.placeRecord r).readout = s.readout ++ [{ r with seq := s.readoutSeq }] := rfl
@[simp] theorem State.placeRecord_readoutSeq (r : ReadoutRecord) :
    (s.placeRecord r).readoutSeq = s.readoutSeq + 1 := rfl
@[simp] theorem State.placeRecord_readoutWatermark (r : ReadoutRecord) :
    (s.placeRecord r).readoutWatermark = s.readoutWatermark := rfl
@[simp] theorem State.placeRecord_array (r : ReadoutRecord) : (s.placeRecord r).array = s.array := rfl
@[simp] theorem State.placeRecord_refreshTimer (r : ReadoutRecord) :
    (s.placeRecord r).refreshTimer = s.refreshTimer := rfl
@[simp] theorem State.placeRecord_timebase (r : ReadoutRecord) : (s.placeRecord r).timebase = s.timebase := rfl
@[simp] theorem State.placeRecord_due (r : ReadoutRecord) : (s.placeRecord r).due = s.due := rfl
@[simp] theorem State.placeRecord_alerts (r : ReadoutRecord) : (s.placeRecord r).alerts = s.alerts := rfl
@[simp] theorem State.placeRecord_eventLog (r : ReadoutRecord) : (s.placeRecord r).eventLog = s.eventLog := rfl
@[simp] theorem State.placeRecord_moment (r : ReadoutRecord) : (s.placeRecord r).moment = s.moment := rfl
@[simp] theorem State.placeRecord_lost (r : ReadoutRecord) : (s.placeRecord r).lost = s.lost := rfl
@[simp] theorem State.placeRecord_stats (r : ReadoutRecord) : (s.placeRecord r).stats = s.stats := rfl
@[simp] theorem State.placeRecord_power (r : ReadoutRecord) : (s.placeRecord r).power = s.power := rfl

/-! ### hostDeparted -/

@[simp] theorem State.hostDeparted_pending : (s.hostDeparted).pending = s.pending := rfl
@[simp] theorem State.hostDeparted_host : (s.hostDeparted).host = s.host := rfl
@[simp] theorem State.hostDeparted_hostFifo : (s.hostDeparted).hostFifo = s.hostFifo.tail := rfl
@[simp] theorem State.hostDeparted_hostParked : (s.hostDeparted).hostParked = false := rfl
@[simp] theorem State.hostDeparted_commands :
    (s.hostDeparted).commands = s.commands.map fun c => { c with mark := c.mark - 1 } := rfl
@[simp] theorem State.hostDeparted_completions : (s.hostDeparted).completions = s.completions := rfl
@[simp] theorem State.hostDeparted_regionController :
    (s.hostDeparted).regionController = s.regionController := rfl
@[simp] theorem State.hostDeparted_binUnit : (s.hostDeparted).binUnit = s.binUnit := rfl
@[simp] theorem State.hostDeparted_fence : (s.hostDeparted).fence = s.fence := rfl
@[simp] theorem State.hostDeparted_retain : (s.hostDeparted).retain = s.retain := rfl
@[simp] theorem State.hostDeparted_markers : (s.hostDeparted).markers = s.markers := rfl
@[simp] theorem State.hostDeparted_lane : (s.hostDeparted).lane = s.lane := rfl
@[simp] theorem State.hostDeparted_laneControl : (s.hostDeparted).laneControl = s.laneControl := rfl
@[simp] theorem State.hostDeparted_turn : (s.hostDeparted).turn = s.turn := rfl
@[simp] theorem State.hostDeparted_regions : (s.hostDeparted).regions = s.regions := rfl
@[simp] theorem State.hostDeparted_entries : (s.hostDeparted).entries = s.entries := rfl
@[simp] theorem State.hostDeparted_mergeControl : (s.hostDeparted).mergeControl = s.mergeControl := rfl
@[simp] theorem State.hostDeparted_lingerDivider : (s.hostDeparted).lingerDivider = s.lingerDivider := rfl
@[simp] theorem State.hostDeparted_sweeps : (s.hostDeparted).sweeps = s.sweeps := rfl
@[simp] theorem State.hostDeparted_intake : (s.hostDeparted).intake = s.intake := rfl
@[simp] theorem State.hostDeparted_readout : (s.hostDeparted).readout = s.readout := rfl
@[simp] theorem State.hostDeparted_readoutSeq : (s.hostDeparted).readoutSeq = s.readoutSeq := rfl
@[simp] theorem State.hostDeparted_readoutWatermark :
    (s.hostDeparted).readoutWatermark = s.readoutWatermark := rfl
@[simp] theorem State.hostDeparted_array : (s.hostDeparted).array = s.array := rfl
@[simp] theorem State.hostDeparted_refreshTimer : (s.hostDeparted).refreshTimer = s.refreshTimer := rfl
@[simp] theorem State.hostDeparted_timebase : (s.hostDeparted).timebase = s.timebase := rfl
@[simp] theorem State.hostDeparted_due : (s.hostDeparted).due = s.due := rfl
@[simp] theorem State.hostDeparted_alerts : (s.hostDeparted).alerts = s.alerts := rfl
@[simp] theorem State.hostDeparted_eventLog : (s.hostDeparted).eventLog = s.eventLog := rfl
@[simp] theorem State.hostDeparted_moment : (s.hostDeparted).moment = s.moment := rfl
@[simp] theorem State.hostDeparted_lost : (s.hostDeparted).lost = s.lost := rfl
@[simp] theorem State.hostDeparted_stats : (s.hostDeparted).stats = s.stats := rfl
@[simp] theorem State.hostDeparted_power : (s.hostDeparted).power = s.power := rfl

/-! ### regionResult -/

@[simp] theorem State.regionResult_pending (t : Ticket) (x : Result) :
    (s.regionResult t x).pending = s.pending := rfl
@[simp] theorem State.regionResult_host (t : Ticket) (x : Result) : (s.regionResult t x).host = s.host := rfl
@[simp] theorem State.regionResult_hostFifo (t : Ticket) (x : Result) :
    (s.regionResult t x).hostFifo = s.hostFifo := rfl
@[simp] theorem State.regionResult_hostParked (t : Ticket) (x : Result) :
    (s.regionResult t x).hostParked = s.hostParked := rfl
@[simp] theorem State.regionResult_commands (t : Ticket) (x : Result) :
    (s.regionResult t x).commands = s.commands := rfl
@[simp] theorem State.regionResult_completions (t : Ticket) (x : Result) :
    (s.regionResult t x).completions = s.completions := rfl
@[simp] theorem State.regionResult_regionController (t : Ticket) (x : Result) :
    (s.regionResult t x).regionController = .posting (plainCompletion t x) false := rfl
@[simp] theorem State.regionResult_binUnit (t : Ticket) (x : Result) :
    (s.regionResult t x).binUnit = s.binUnit := rfl
@[simp] theorem State.regionResult_fence (t : Ticket) (x : Result) : (s.regionResult t x).fence = s.fence := rfl
@[simp] theorem State.regionResult_retain (t : Ticket) (x : Result) :
    (s.regionResult t x).retain = s.retain := rfl
@[simp] theorem State.regionResult_markers (t : Ticket) (x : Result) :
    (s.regionResult t x).markers = s.markers := rfl
@[simp] theorem State.regionResult_lane (t : Ticket) (x : Result) : (s.regionResult t x).lane = s.lane := rfl
@[simp] theorem State.regionResult_laneControl (t : Ticket) (x : Result) :
    (s.regionResult t x).laneControl = s.laneControl := rfl
@[simp] theorem State.regionResult_turn (t : Ticket) (x : Result) : (s.regionResult t x).turn = s.turn := rfl
@[simp] theorem State.regionResult_regions (t : Ticket) (x : Result) :
    (s.regionResult t x).regions = s.regions := rfl
@[simp] theorem State.regionResult_entries (t : Ticket) (x : Result) :
    (s.regionResult t x).entries = s.entries := rfl
@[simp] theorem State.regionResult_mergeControl (t : Ticket) (x : Result) :
    (s.regionResult t x).mergeControl = s.mergeControl := rfl
@[simp] theorem State.regionResult_lingerDivider (t : Ticket) (x : Result) :
    (s.regionResult t x).lingerDivider = s.lingerDivider := rfl
@[simp] theorem State.regionResult_sweeps (t : Ticket) (x : Result) :
    (s.regionResult t x).sweeps = s.sweeps := rfl
@[simp] theorem State.regionResult_intake (t : Ticket) (x : Result) :
    (s.regionResult t x).intake = s.intake := rfl
@[simp] theorem State.regionResult_readout (t : Ticket) (x : Result) :
    (s.regionResult t x).readout = s.readout := rfl
@[simp] theorem State.regionResult_readoutSeq (t : Ticket) (x : Result) :
    (s.regionResult t x).readoutSeq = s.readoutSeq := rfl
@[simp] theorem State.regionResult_readoutWatermark (t : Ticket) (x : Result) :
    (s.regionResult t x).readoutWatermark = s.readoutWatermark := rfl
@[simp] theorem State.regionResult_array (t : Ticket) (x : Result) : (s.regionResult t x).array = s.array := rfl
@[simp] theorem State.regionResult_refreshTimer (t : Ticket) (x : Result) :
    (s.regionResult t x).refreshTimer = s.refreshTimer := rfl
@[simp] theorem State.regionResult_timebase (t : Ticket) (x : Result) :
    (s.regionResult t x).timebase = s.timebase := rfl
@[simp] theorem State.regionResult_due (t : Ticket) (x : Result) : (s.regionResult t x).due = s.due := rfl
@[simp] theorem State.regionResult_alerts (t : Ticket) (x : Result) :
    (s.regionResult t x).alerts = s.alerts := rfl
@[simp] theorem State.regionResult_eventLog (t : Ticket) (x : Result) :
    (s.regionResult t x).eventLog = s.eventLog := rfl
@[simp] theorem State.regionResult_moment (t : Ticket) (x : Result) :
    (s.regionResult t x).moment = s.moment := rfl
@[simp] theorem State.regionResult_lost (t : Ticket) (x : Result) : (s.regionResult t x).lost = s.lost := rfl
@[simp] theorem State.regionResult_stats (t : Ticket) (x : Result) : (s.regionResult t x).stats = s.stats := rfl
@[simp] theorem State.regionResult_power (t : Ticket) (x : Result) : (s.regionResult t x).power = s.power := rfl

/-! ### binFails -/

@[simp] theorem State.binFails_pending (t : Ticket) (x : Result) : (s.binFails t x).pending = s.pending := rfl
@[simp] theorem State.binFails_host (t : Ticket) (x : Result) : (s.binFails t x).host = s.host := rfl
@[simp] theorem State.binFails_hostFifo (t : Ticket) (x : Result) :
    (s.binFails t x).hostFifo = s.hostFifo := rfl
@[simp] theorem State.binFails_hostParked (t : Ticket) (x : Result) :
    (s.binFails t x).hostParked = s.hostParked := rfl
@[simp] theorem State.binFails_commands (t : Ticket) (x : Result) :
    (s.binFails t x).commands = s.commands := rfl
@[simp] theorem State.binFails_completions (t : Ticket) (x : Result) :
    (s.binFails t x).completions = s.completions := rfl
@[simp] theorem State.binFails_regionController (t : Ticket) (x : Result) :
    (s.binFails t x).regionController = s.regionController := rfl
@[simp] theorem State.binFails_binUnit (t : Ticket) (x : Result) :
    (s.binFails t x).binUnit = .posting (plainCompletion t x) := rfl
@[simp] theorem State.binFails_fence (t : Ticket) (x : Result) : (s.binFails t x).fence = s.fence := rfl
@[simp] theorem State.binFails_retain (t : Ticket) (x : Result) : (s.binFails t x).retain = s.retain := rfl
@[simp] theorem State.binFails_markers (t : Ticket) (x : Result) : (s.binFails t x).markers = s.markers := rfl
@[simp] theorem State.binFails_lane (t : Ticket) (x : Result) : (s.binFails t x).lane = s.lane := rfl
@[simp] theorem State.binFails_laneControl (t : Ticket) (x : Result) :
    (s.binFails t x).laneControl = s.laneControl := rfl
@[simp] theorem State.binFails_turn (t : Ticket) (x : Result) : (s.binFails t x).turn = s.turn := rfl
@[simp] theorem State.binFails_regions (t : Ticket) (x : Result) : (s.binFails t x).regions = s.regions := rfl
@[simp] theorem State.binFails_entries (t : Ticket) (x : Result) : (s.binFails t x).entries = s.entries := rfl
@[simp] theorem State.binFails_mergeControl (t : Ticket) (x : Result) :
    (s.binFails t x).mergeControl = s.mergeControl := rfl
@[simp] theorem State.binFails_lingerDivider (t : Ticket) (x : Result) :
    (s.binFails t x).lingerDivider = s.lingerDivider := rfl
@[simp] theorem State.binFails_sweeps (t : Ticket) (x : Result) : (s.binFails t x).sweeps = s.sweeps := rfl
@[simp] theorem State.binFails_intake (t : Ticket) (x : Result) : (s.binFails t x).intake = s.intake := rfl
@[simp] theorem State.binFails_readout (t : Ticket) (x : Result) : (s.binFails t x).readout = s.readout := rfl
@[simp] theorem State.binFails_readoutSeq (t : Ticket) (x : Result) :
    (s.binFails t x).readoutSeq = s.readoutSeq := rfl
@[simp] theorem State.binFails_readoutWatermark (t : Ticket) (x : Result) :
    (s.binFails t x).readoutWatermark = s.readoutWatermark := rfl
@[simp] theorem State.binFails_array (t : Ticket) (x : Result) : (s.binFails t x).array = s.array := rfl
@[simp] theorem State.binFails_refreshTimer (t : Ticket) (x : Result) :
    (s.binFails t x).refreshTimer = s.refreshTimer := rfl
@[simp] theorem State.binFails_timebase (t : Ticket) (x : Result) :
    (s.binFails t x).timebase = s.timebase := rfl
@[simp] theorem State.binFails_due (t : Ticket) (x : Result) : (s.binFails t x).due = s.due := rfl
@[simp] theorem State.binFails_alerts (t : Ticket) (x : Result) : (s.binFails t x).alerts = s.alerts := rfl
@[simp] theorem State.binFails_eventLog (t : Ticket) (x : Result) :
    (s.binFails t x).eventLog = s.eventLog := rfl
@[simp] theorem State.binFails_moment (t : Ticket) (x : Result) :
    (s.binFails t x).moment = s.moment := rfl
@[simp] theorem State.binFails_lost (t : Ticket) (x : Result) : (s.binFails t x).lost = s.lost := rfl
@[simp] theorem State.binFails_stats (t : Ticket) (x : Result) : (s.binFails t x).stats = s.stats := rfl
@[simp] theorem State.binFails_power (t : Ticket) (x : Result) : (s.binFails t x).power = s.power := rfl

/-! ### endTransaction -/

@[simp] theorem State.endTransaction_pending (o a : Bool) : (s.endTransaction o a).pending = s.pending := rfl
@[simp] theorem State.endTransaction_host (o a : Bool) :
    (s.endTransaction o a).host = { s.host with tx := .idle, prevOutcome := o, armed := a } := rfl
@[simp] theorem State.endTransaction_hostFifo (o a : Bool) : (s.endTransaction o a).hostFifo = s.hostFifo := rfl
@[simp] theorem State.endTransaction_hostParked (o a : Bool) :
    (s.endTransaction o a).hostParked = s.hostParked := rfl
@[simp] theorem State.endTransaction_commands (o a : Bool) : (s.endTransaction o a).commands = s.commands := rfl
@[simp] theorem State.endTransaction_completions (o a : Bool) :
    (s.endTransaction o a).completions = s.completions := rfl
@[simp] theorem State.endTransaction_regionController (o a : Bool) :
    (s.endTransaction o a).regionController = s.regionController := rfl
@[simp] theorem State.endTransaction_binUnit (o a : Bool) : (s.endTransaction o a).binUnit = s.binUnit := rfl
@[simp] theorem State.endTransaction_fence (o a : Bool) : (s.endTransaction o a).fence = s.fence := rfl
@[simp] theorem State.endTransaction_retain (o a : Bool) : (s.endTransaction o a).retain = s.retain := rfl
@[simp] theorem State.endTransaction_markers (o a : Bool) : (s.endTransaction o a).markers = s.markers := rfl
@[simp] theorem State.endTransaction_lane (o a : Bool) : (s.endTransaction o a).lane = s.lane := rfl
@[simp] theorem State.endTransaction_laneControl (o a : Bool) :
    (s.endTransaction o a).laneControl = s.laneControl := rfl
@[simp] theorem State.endTransaction_turn (o a : Bool) : (s.endTransaction o a).turn = s.turn := rfl
@[simp] theorem State.endTransaction_regions (o a : Bool) : (s.endTransaction o a).regions = s.regions := rfl
@[simp] theorem State.endTransaction_entries (o a : Bool) : (s.endTransaction o a).entries = s.entries := rfl
@[simp] theorem State.endTransaction_mergeControl (o a : Bool) :
    (s.endTransaction o a).mergeControl = s.mergeControl := rfl
@[simp] theorem State.endTransaction_lingerDivider (o a : Bool) :
    (s.endTransaction o a).lingerDivider = s.lingerDivider := rfl
@[simp] theorem State.endTransaction_sweeps (o a : Bool) : (s.endTransaction o a).sweeps = s.sweeps := rfl
@[simp] theorem State.endTransaction_intake (o a : Bool) : (s.endTransaction o a).intake = s.intake := rfl
@[simp] theorem State.endTransaction_readout (o a : Bool) : (s.endTransaction o a).readout = s.readout := rfl
@[simp] theorem State.endTransaction_readoutSeq (o a : Bool) :
    (s.endTransaction o a).readoutSeq = s.readoutSeq := rfl
@[simp] theorem State.endTransaction_readoutWatermark (o a : Bool) :
    (s.endTransaction o a).readoutWatermark = s.readoutWatermark := rfl
@[simp] theorem State.endTransaction_array (o a : Bool) : (s.endTransaction o a).array = s.array := rfl
@[simp] theorem State.endTransaction_refreshTimer (o a : Bool) :
    (s.endTransaction o a).refreshTimer = s.refreshTimer := rfl
@[simp] theorem State.endTransaction_timebase (o a : Bool) : (s.endTransaction o a).timebase = s.timebase := rfl
@[simp] theorem State.endTransaction_due (o a : Bool) : (s.endTransaction o a).due = s.due := rfl
@[simp] theorem State.endTransaction_alerts (o a : Bool) : (s.endTransaction o a).alerts = s.alerts := rfl
@[simp] theorem State.endTransaction_eventLog (o a : Bool) : (s.endTransaction o a).eventLog = s.eventLog := rfl
@[simp] theorem State.endTransaction_moment (o a : Bool) : (s.endTransaction o a).moment = s.moment := rfl
@[simp] theorem State.endTransaction_lost (o a : Bool) : (s.endTransaction o a).lost = s.lost := rfl
@[simp] theorem State.endTransaction_stats (o a : Bool) : (s.endTransaction o a).stats = s.stats := rfl
@[simp] theorem State.endTransaction_power (o a : Bool) : (s.endTransaction o a).power = s.power := rfl

/-! ### endMoment -/

@[simp] theorem State.endMoment_pending : s.endMoment.pending = s.pending := rfl
@[simp] theorem State.endMoment_host : s.endMoment.host = s.host := rfl
@[simp] theorem State.endMoment_hostFifo : s.endMoment.hostFifo = s.hostFifo := rfl
@[simp] theorem State.endMoment_hostParked : s.endMoment.hostParked = s.hostParked := rfl
@[simp] theorem State.endMoment_commands : s.endMoment.commands = s.commands := rfl
@[simp] theorem State.endMoment_completions : s.endMoment.completions = s.completions := rfl
@[simp] theorem State.endMoment_regionController : s.endMoment.regionController = s.regionController := rfl
@[simp] theorem State.endMoment_binUnit : s.endMoment.binUnit = s.binUnit := rfl
@[simp] theorem State.endMoment_fence : s.endMoment.fence = s.fence := rfl
@[simp] theorem State.endMoment_retain : s.endMoment.retain = s.retain := rfl
@[simp] theorem State.endMoment_markers : s.endMoment.markers = s.markers := rfl
@[simp] theorem State.endMoment_lane : s.endMoment.lane = s.lane := rfl
@[simp] theorem State.endMoment_laneControl : s.endMoment.laneControl = s.laneControl := rfl
@[simp] theorem State.endMoment_turn : s.endMoment.turn = s.turn := rfl
@[simp] theorem State.endMoment_regions : s.endMoment.regions = s.regions := rfl
@[simp] theorem State.endMoment_entries : s.endMoment.entries = s.entries := rfl
@[simp] theorem State.endMoment_mergeControl : s.endMoment.mergeControl = s.mergeControl := rfl
@[simp] theorem State.endMoment_lingerDivider : s.endMoment.lingerDivider = s.lingerDivider := rfl
@[simp] theorem State.endMoment_sweeps : s.endMoment.sweeps = s.sweeps := rfl
@[simp] theorem State.endMoment_intake : s.endMoment.intake = s.intake := rfl
@[simp] theorem State.endMoment_readout : s.endMoment.readout = s.readout := rfl
@[simp] theorem State.endMoment_readoutSeq : s.endMoment.readoutSeq = s.readoutSeq := rfl
@[simp] theorem State.endMoment_readoutWatermark : s.endMoment.readoutWatermark = s.readoutWatermark := rfl
@[simp] theorem State.endMoment_array : s.endMoment.array = s.array := rfl
@[simp] theorem State.endMoment_refreshTimer : s.endMoment.refreshTimer = s.refreshTimer := rfl
@[simp] theorem State.endMoment_timebase : s.endMoment.timebase = s.timebase := rfl
@[simp] theorem State.endMoment_due : s.endMoment.due = s.due := rfl
@[simp] theorem State.endMoment_alerts : s.endMoment.alerts = s.alerts := rfl
@[simp] theorem State.endMoment_eventLog : s.endMoment.eventLog = s.eventLog := rfl
@[simp] theorem State.endMoment_moment : s.endMoment.moment = 0 := rfl
@[simp] theorem State.endMoment_lost : s.endMoment.lost = s.lost := rfl
@[simp] theorem State.endMoment_stats : s.endMoment.stats = s.stats := rfl
@[simp] theorem State.endMoment_power : s.endMoment.power = s.power := rfl

end Sys2Proof.Machine
end

