-- ==== Sys2Proof/Laws/Step.lean ====
section
/-! SUPPORT. What the shared operations can do, said once: the frame of a step (`settle`, `takeStep`), a transaction's
request, a dispatch, a grant, the placement of an update, a round of the Update Arbiter, the end of an operation. -/

namespace Sys2Proof.Machine

/-! ### The frame of a step -/

/-- With no PAD and no reserved record at the head the lane handles nothing of its own (R57). -/
theorem State.ownRecords_of_no_head (s : State) (h : s.lane.ownHead = false) (n : Nat) : s.ownRecords n = s := by
  cases n <;> simp [State.ownRecords, h]

theorem State.handleOwn_of_no_head (s : State) (h : s.lane.ownHead = false) : s.handleOwn = s :=
  s.ownRecords_of_no_head h _

/-- With no head record that is taken at once the lane takes none (R57, R122). -/
theorem State.headRecords_of_none_due (s : State) (h : s.lane.ownHead = false) (hm : s.markDue = false) (n : Nat) :
    s.headRecords n = s := by
  cases n <;> simp [State.headRecords, h, hm]

theorem State.takeHeads_of_none_due (s : State) (h : s.lane.ownHead = false) (hm : s.markDue = false) :
    s.takeHeads = s :=
  s.headRecords_of_none_due h hm _

/-- The end of a cancelled sweep changes something only when it is due (R136). -/
theorem State.terminalRecord_of_not_due (s : State) (h : s.terminalDue = false) : s.terminalRecord = s := by
  simp only [State.terminalRecord]
  split
  · rfl
  · simp [h]

/-- What it is to be settled, field by field. -/
theorem State.settled_iff (s : State) :
    s.settled = true ↔ s.due = .nothing ∧ s.power.initEnd = none ∧ s.startDue = false ∧ s.terminalDue = false
      ∧ s.lane.ownHead = false ∧ s.markDue = false ∧ s.moment = 0 := by
  simp [State.settled, and_assoc]

theorem State.settle_of_settled (s : State) (h : s.settled = true) : s.settle = s := by
  obtain ⟨hd, hi, hs, ht, ho, hk, hm⟩ := s.settled_iff.1 h
  have h1 : s.endOfInitialisation = s := by simp [State.endOfInitialisation, hi]
  have h2 : s.stallReport = s := by simp [State.stallReport, hd, Due.nothing]
  have h3 : s.lingerTick = s := by simp [State.lingerTick, hd, Due.nothing]
  have h4 : s.refreshDue = s := by simp [State.refreshDue, hd, Due.nothing]
  have h5 : s.seekRepeat = s := by simp [State.seekRepeat, hd, Due.nothing]
  have h6 : s.trainTimeout = s := by simp [State.trainTimeout, hd, Due.nothing]
  have h7 : s.sweepStart = s := by
    simp only [State.sweepStart]
    simp only [State.startDue] at hs
    split <;> rename_i hw <;> simp_all
  have h8 : s.endMoment = s := by simp only [State.endMoment, ← hm]
  simp only [State.settle, s.takeHeads_of_none_due ho hk, h1, h2, h3, h4, h5, h6, h7, s.terminalRecord_of_not_due ht, h8]

/-- A step of a quiet state runs at once. -/
theorem takeStep_of_quiet (s : State) (f : State → Out) (h : s.quiet) : takeStep s f = f s := by
  simp [takeStep, h.1, State.settle_of_settled s h.2]

/-- While a reset is in force nothing happens (R165). -/
theorem takeStep_of_held (s : State) (f : State → Out) (h : s.power.held = true) : takeStep s f = .next s := by
  simp [takeStep, h]

theorem takeStep_of_not_held (s : State) (f : State → Out) (h : s.power.held = false) :
    takeStep s f = f s.settle := by
  simp [takeStep, h]

theorem takeOutstanding_of_not_held (s : State) (f : State → State) (h : s.power.held = false) :
    takeOutstanding s f = .next (f s) := by
  simp [takeOutstanding, h]

theorem takeOutstanding_of_held (s : State) (f : State → State) (h : s.power.held = true) :
    takeOutstanding s f = .next s := by
  simp [takeOutstanding, h]

/-- All that a step can be: nothing under a reset, or its meaning on the settled state. -/
theorem takeStep_cases (s : State) (f : State → Out) (o : Out) (h : takeStep s f = o) :
    (s.power.held = true ∧ o = .next s) ∨ (s.power.held = false ∧ o = f s.settle) := by
  subst h
  cases hh : s.power.held
  · exact .inr ⟨rfl, takeStep_of_not_held s f hh⟩
  · exact .inl ⟨rfl, takeStep_of_held s f hh⟩

/-! ### Events -/

/-- All that logging can do (R158, R159). -/
theorem State.log_cases (s : State) (e : Event) :
    (s.eventLog.length < Config.eventSlots
        ∧ s.log e = { s with eventLog := s.logged e, moment := s.moment + 1 })
      ∨ (Config.eventSlots ≤ s.eventLog.length
        ∧ s.log e = { s with eventLog := (s.logged e).dropLast, lost := satInc s.lost }) := by
  simp only [State.log]
  split
  · exact .inl ⟨by assumption, rfl⟩
  · exact .inr ⟨by omega, rfl⟩

/-- The first event of a moment enters at the tail (R158). -/
theorem State.logged_first (s : State) (e : Event) (h : s.moment = 0) : s.logged e = s.eventLog ++ [e] := by
  simp [State.logged, h, insertEvent]

/-- The first event of a moment is stored at the tail, or lost (R158, R159). -/
theorem State.log_first (s : State) (e : Event) (h : s.moment = 0) :
    s.log e = if s.eventLog.length < Config.eventSlots then { s with eventLog := s.eventLog ++ [e], moment := 1 }
      else { s with lost := satInc s.lost } := by
  simp [State.log, s.logged_first e h, h]

@[simp] theorem insertEvent_length (e : Event) (l : List Event) : (insertEvent e l).length = l.length + 1 := by
  induction l with
  | nil => rfl
  | cons f l ih => simp only [insertEvent]; split <;> simp [ih]

@[simp] theorem State.logged_length (s : State) (e : Event) : (s.logged e).length = s.eventLog.length + 1 := by
  simp only [State.logged, List.length_append, List.length_take, insertEvent_length, List.length_drop]
  omega

/-- Events change the log, the count of the moment's records and LOST only. -/
theorem State.foldl_log_frame (s : State) (l : List Event) :
    l.foldl State.log s
      = { s with
          eventLog := (l.foldl State.log s).eventLog
          moment := (l.foldl State.log s).moment
          lost := (l.foldl State.log s).lost } := by
  induction l generalizing s with
  | nil => rfl
  | cons e m ih =>
    rw [List.foldl_cons, ih (s.log e)]
    rcases s.log_cases e with ⟨-, h⟩ | ⟨-, h⟩ <;> rw [h]

/-! ### Requests, dispatch and grants -/

/-- The decision point with the port in OPCODE (R13). -/
theorem request_of_quiet (op : Opcode) (body : List Byte) (crc : Byte) (own : State → Decision) (s : State)
    (h : s.quiet) (ht : s.host.tx = .opcode) :
    request op body crc own s = .next (s.respond op (decision s op body crc (own s))) := by
  simp [request, takeStep_of_quiet s _ h, ht]

/-- The decision with a right CRC byte and a power state that admits the opcode (R13, R14). -/
theorem decision_admitted (s : State) (op : Opcode) (body : List Byte) (crc : Byte) (own : Decision)
    (hc : crc8 (opcodeByte op :: body) = crc) (hp : powerRefusal s.power.state op = none) :
    decision s op body crc own = own := by
  simp [decision, hc, hp]

/-- All that a request can do on a settled state: nothing, or a decision. -/
theorem request_cases (op : Opcode) (body : List Byte) (crc : Byte) (own : State → Decision) (s t : State)
    (h : request op body crc own s = .next t) :
    t = s ∨ t = s.settle ∨ t = s.settle.respond op (decision s.settle op body crc (own s.settle)) := by
  rcases takeStep_cases _ _ _ h with ⟨-, h⟩ | ⟨-, h⟩
  · exact .inl (by simpa using h)
  · split at h
    · exact .inr (.inr (by simpa using h))
    · exact .inr (.inl (by simpa using h))

/-- All that a dispatch row can do on a quiet state (R35). -/
theorem dispatch_of_quiet (kind : CommandKind) (take : QueuedCommand → State → State) (s : State) (h : s.quiet) :
    dispatch kind take s
      = .next (match s.dispatchable kind with
        | none => s
        | some c => take c s.dequeued) := by
  rw [dispatch, takeStep_of_quiet s _ h]
  cases s.dispatchable kind <;> rfl

/-- All that the row of a grant can do on a quiet state (R145). -/
theorem grantTo_of_quiet (m : Member) (f : State → State → Out) (s : State) (h : s.quiet) :
    grantTo m f s
      = if s.nextGrant = some (.member m) then
          f s { s with array := { s.array with pointer := m.following } }
        else .next s := by
  rw [grantTo, takeStep_of_quiet s _ h]

/-- The beginning of an operation on a counter inside the array. -/
theorem beginOn_of_inside (c : CounterOp) (op : ArrayOp) (s : State)
    (h : counterLastWord c.desc c.bin < Config.arrayWords) : beginOn c op s = .next (s.startOp op) := by
  simp [beginOn, h]

/-- No grant is made while an operation is in progress (R144). -/
theorem State.op_none_of_grant (s : State) (g : Grant) (h : s.nextGrant = some g) : s.array.op = none := by
  simp only [State.nextGrant] at h
  split at h
  · simp at h
  · rename_i hn
    simpa using hn

/-! ### Updates -/

/-- All that the placement of an admitted update can do (R110): merge, open an entry, or park; an OPEN entry that may
not take the update is sealed first. -/
theorem State.place_cases (s : State) (src : Source) (r : HostRecord) (v : Int) :
    (∃ e, s.entries.find? (fun e => e.isOpenOf r.region r.bin) = some e ∧ mergeAllowed e.operator e.part v = true ∧
        s.place src r v = ({ s with
          entries := s.entries.map fun (e : Entry) =>
            if e.isOpenOf r.region r.bin then e.merge v src else e }).depart src)
      ∨ (s.entries.find? (fun e => e.isOpenOf r.region r.bin) = none ∧ s.place src r v = s.openEntry src r v)
      ∨ (∃ e, s.entries.find? (fun e => e.isOpenOf r.region r.bin) = some e ∧
          mergeAllowed e.operator e.part v = false ∧
          s.place src r v = (s.sealWhere fun e => e.isOpenOf r.region r.bin).openEntry src r v) := by
  simp only [State.place]
  split
  · exact .inr (.inl ⟨by assumption, rfl⟩)
  · split
    · exact .inl ⟨_, by assumption, by assumption, rfl⟩
    · rename_i hn
      exact .inr (.inr ⟨_, by assumption, by simpa using hn, rfl⟩)

/-- All that an offer can do (R88 to R90, R110): nothing, a rejection, or a placement. -/
theorem State.offer_cases (s : State) (src : Source) :
    (s.headRecord src = none ∧ s.offer src = (s, false))
      ∨ (∃ r reason, s.headRecord src = some r ∧
          rejectReason (s.region r.region) src r.bin = some reason ∧ s.offer src = (s.reject src r reason, true))
      ∨ (∃ r, s.headRecord src = some r ∧ rejectReason (s.region r.region) src r.bin = none ∧
          s.offer src = (s.place src r (scaledValue (s.region r.region).desc r.value), false)) := by
  simp only [State.offer]
  split
  · exact .inl ⟨by assumption, rfl⟩
  · split
    · exact .inr (.inl ⟨_, _, by assumption, by assumption, rfl⟩)
    · exact .inr (.inr ⟨_, by assumption, by assumption, rfl⟩)

/-- What holds of a record that no check of R89 rejects. -/
theorem rejectReason_none (reg : Region) (src : Source) (bin : BinIx) (h : rejectReason reg src bin = none) :
    reg.state = .live ∧ (src = .lane → reg.desc.laneOk = true) ∧ (src = .host → reg.desc.hostOk = true)
      ∧ bin ≤ reg.desc.binsMinus1 := by
  cases src <;> simp only [rejectReason] at h <;> split at h
  · simp at h
  · rename_i hl
    cases hk : reg.desc.laneOk <;> simp_all
  · simp at h
  · rename_i hl
    cases hk : reg.desc.hostOk <;> simp_all

/-- A round with no ready source (R112). -/
theorem State.round_none (s : State) :
    s.round false false = { state := s, laneRejected := false, hostRejected := false } := rfl

/-- Offers of no source. -/
theorem State.offers_none (s : State) : s.offers false false = s := rfl

/-- A round that rejects nothing ends the moment's offers. -/
theorem State.offers_of_no_rejection (s : State) (laneReady hostReady : Bool)
    (hl : (s.round laneReady hostReady).laneRejected = false)
    (hh : (s.round laneReady hostReady).hostRejected = false) :
    s.offers laneReady hostReady = (s.round laneReady hostReady).state := by
  simp [State.offers, State.rounds, hl, hh]

/-- With no record parked a moment of re-offer offers nothing (R111). -/
theorem State.reoffer_unparked (s : State) (hl : s.lane.parked = false) (hh : s.hostParked = false) : s.reoffer = s := by
  simp [State.reoffer, hl, hh]

/-- With a record parked, every source with an UPDATE at its head is offered (R112). -/
theorem State.reoffer_parked (s : State) (h : (s.lane.parked || s.hostParked) = true) :
    s.reoffer = s.offers (s.headRecord .lane).isSome (s.headRecord .host).isSome := by
  simp [State.reoffer, h]

/-- With no record parked nothing passes before a region command acts, and nothing is re-offered after it (R80, R111). -/
theorem State.passUnparked_unparked (s : State) (hl : s.lane.parked = false) (hh : s.hostParked = false) :
    s.passUnparked = s := by
  simp [State.passUnparked, hl, hh]

theorem State.reofferParked_unparked (s : State) (hl : s.lane.parked = false) (hh : s.hostParked = false) :
    s.reofferParked = s := by
  simp [State.reofferParked, hl, hh, State.offers_none]

/-! ### The end of an operation -/

/-- With no region command waiting there is no action moment (R80). -/
theorem State.actionMoment_none (s : State) (h : ∀ c, s.regionController ≠ .awaiting c) : s.actionMoment = s := by
  simp only [State.actionMoment]
  split
  · exact absurd ‹_› (h _)
  · rfl
  · rfl
  · rfl

/-- With no region command waiting nothing passes before an action (R80). -/
theorem State.beforeAction_none (s : State) (h : ∀ c, s.regionController ≠ .awaiting c) : s.beforeAction = s := by
  simp only [State.beforeAction]
  split
  · exact absurd ‹_› (h _)
  · rfl
  · rfl
  · rfl

/-- A waiting region command: what passes before it, its action, and the re-offer of the parked records (R80). -/
theorem State.beforeAction_actionMoment (s : State) (c : RegionCommand) (h : s.regionController = .awaiting c) :
    s.beforeAction = s.passUnparked ∧ s.actionMoment = (s.act c).reofferParked := by
  simp [State.beforeAction, State.actionMoment, h]

/-- The end of an operation that frees no entry, or finds nothing parked, with no region command waiting: the operation
is over. -/
theorem State.finishOp_plain (s : State) (departed : Bool)
    (hp : departed = true → s.lane.parked = false ∧ s.hostParked = false)
    (hr : ∀ c, s.regionController ≠ .awaiting c) : s.finishOp departed = s.endOp := by
  simp only [State.finishOp]
  split
  · have h := hp ‹_›
    have hre : s.endOp.reoffer = s.endOp := by simp [State.reoffer, h.1, h.2]
    rw [hre, s.endOp.actionMoment_none hr]
  · rw [s.endOp.beforeAction_none hr]
    exact s.endOp.actionMoment_none hr

/-! ### The pins (R51) -/

/-- Samples of a frame in progress on a quiet state only add their nibbles. -/
theorem State.lclkEdges_high (s : State) (nibbles more : List (BitVec 4)) (rest : List LaneSample)
    (h : s.settled = true) (ho : s.lane.state ≠ .off) (hw : s.lane.wire = .frame nibbles) :
    s.lclkEdges (more.map (fun d => { lfrm := true, ld := d }) ++ rest)
      = State.lclkEdges { s with
          lane := { s.lane with lret := s.lane.lret.drop more.length, wire := .frame (nibbles ++ more) } } rest := by
  induction more generalizing s nibbles with
  | nil =>
    have : s = { s with lane := { s.lane with lret := s.lane.lret, wire := .frame nibbles } } := by rw [← hw]
    simp [← this]
  | cons d more ih =>
    have hs := s.settled_iff.1 h
    let t : State := { s with
      lane := { s.lane with lret := s.lane.lret.tail, wire := .frame (nibbles ++ [d]) } }
    have ht : s.settle.lclkEdge { lfrm := true, ld := d } = t := by
      simp [s.settle_of_settled h, State.lclkEdge, ho, State.samplePins, hw, t]
    have hq : t.settled = true := t.settled_iff.2 hs
    have := ih t (nibbles ++ [d]) hq ho rfl
    simp only [State.lclkEdges, List.map_cons, List.cons_append, List.foldl_cons, ht] at this ⊢
    rw [this]
    simp [t, List.drop_tail]

/-- A whole frame on a quiet state whose last sample was low: it arrives with the low sample that ends it. -/
theorem State.lclkEdges_frame (s : State) (d ld : BitVec 4) (more : List (BitVec 4)) (h : s.settled = true)
    (ho : s.lane.state ≠ .off) (hw : s.lane.wire = .low) :
    s.lclkEdges ((d :: more).map (fun d => { lfrm := true, ld := d }) ++ [{ lfrm := false, ld }])
      = State.frameArrives { s with lane := { s.lane with lret := s.lane.lret.drop (more.length + 2) } }
          (frameOfNibbles (d :: more)) := by
  have hs := s.settled_iff.1 h
  let t : State := { s with lane := { s.lane with lret := s.lane.lret.tail, wire := .frame [d] } }
  have ht : s.settle.lclkEdge { lfrm := true, ld := d } = t := by
    simp [s.settle_of_settled h, State.lclkEdge, ho, State.samplePins, hw, t]
  have hq : t.settled = true := t.settled_iff.2 hs
  have := t.lclkEdges_high [d] more [{ lfrm := false, ld }] hq ho rfl
  simp only [State.lclkEdges, List.map_cons, List.cons_append, List.foldl_cons, List.foldl_nil, ht] at this ⊢
  rw [this, State.settle_of_settled _ (by exact (State.settled_iff _).2 hs)]
  simp [State.lclkEdge, ho, State.samplePins, t, hw, List.drop_tail, List.tail_drop]

end Sys2Proof.Machine
end

