-- ==== Sys2Proof/Laws/Offers.lean ====
section
/-! SUPPORT. The rounds of one moment come to an end: every rejection takes a record, so the bound in `State.offers` is
never reached, and the chain of offers satisfies its own equation (R88, R90); the same for the head records that are
taken at once (R57, R122). -/

namespace Sys2Proof.Machine

/-- The records that the two sources hold. -/
def State.recordsHeld (s : State) : Nat := s.lane.records + s.hostFifo.length

/-! ### How many records a step leaves -/

theorem Lane.records_after_head (l : Lane) (q : Byte) (r : UpdateRecord) (h : l.head = some (q, r)) :
    ((bufferAfterHead l.buffer).map fun f => f.records.length).sum + 1 = l.records := by
  simp only [Lane.head] at h
  split at h
  · simp at h
  · rename_i f rest hb
    cases hf : f.records with
    | nil => simp [hf] at h
    | cons x xs =>
      simp only [Lane.records, hb, bufferAfterHead, hf, List.tail_cons, List.map_cons, List.sum_cons, List.length_cons]
      split
      · rename_i he
        have : xs = [] := by simpa using he
        simp [this]
        omega
      · simp
        omega

/-- Handling a record leaves one record fewer in the buffer. -/
theorem State.laneHandled_records (s : State) (q : Byte) (r : UpdateRecord) (h : s.lane.head = some (q, r)) :
    s.laneHandled.lane.records + 1 = s.lane.records := by
  rw [← s.lane.records_after_head q r h]
  simp only [State.laneHandled]
  split
  · simp only [State.credit]
    split
    · by_cases hq : s.lane.returnQueue.length < Config.returnSlots <;>
        simp [Lane.send, Lane.records, Lane.endStall, hq]
    · rfl
  · rfl

theorem State.laneHandled_hostFifo (s : State) : s.laneHandled.hostFifo = s.hostFifo := by
  simp only [State.laneHandled, State.credit]
  split
  · split <;> rfl
  · rfl

/-- A head that the lane handles itself is taken by the two rows. -/
theorem State.ownStep_records (s : State) (h : s.lane.ownHead = true) :
    s.padRecord.reservedRecord.lane.records < s.lane.records
      ∧ s.padRecord.reservedRecord.hostFifo = s.hostFifo := by
  have reserved : ∀ t : State, t.reservedRecord.lane.records ≤ t.lane.records ∧ t.reservedRecord.hostFifo = t.hostFifo
      ∧ ∀ q r, t.lane.head = some (q, r) → r.type = .reserved → t.reservedRecord.lane.records < t.lane.records := by
    intro t
    simp only [State.reservedRecord]
    split
    · rename_i q r hr
      have := t.laneHandled_records q r hr
      split
      · refine ⟨?_, ?_, ?_⟩
        · simp; omega
        · simp [t.laneHandled_hostFifo]
        · intros; simp; omega
      · simp_all
    · simp_all
  simp only [Lane.ownHead] at h
  split at h
  · rename_i x q r hr
    by_cases hp : r.type = .pad
    · have h1 : s.padRecord = s.laneHandled := by simp [State.padRecord, hr, hp]
      have h2 := s.laneHandled_records q r hr
      have h3 := reserved s.laneHandled
      rw [h1]
      exact ⟨by omega, by rw [h3.2.1, s.laneHandled_hostFifo]⟩
    · have h1 : s.padRecord = s := by simp [State.padRecord, hr, hp]
      rw [h1]
      exact ⟨(reserved s).2.2 q r hr (by simpa [hp] using h), (reserved s).2.1⟩
  · simp at h

/-! ### The records that the lane handles at once -/

/-- With enough turns the number of turns does not matter. -/
theorem State.ownRecords_enough (s : State) (n m : Nat) (hn : s.lane.records ≤ n) (hm : s.lane.records ≤ m) :
    s.ownRecords n = s.ownRecords m := by
  induction n generalizing s m with
  | zero =>
    have ho : s.lane.ownHead = false := by
      by_contra hc
      have := (s.ownStep_records (by simpa using hc)).1
      omega
    rw [s.ownRecords_of_no_head ho, s.ownRecords_of_no_head ho]
  | succ n ih =>
    cases ho : s.lane.ownHead
    · rw [s.ownRecords_of_no_head ho, s.ownRecords_of_no_head ho]
    · have hs := (s.ownStep_records ho).1
      cases m with
      | zero => omega
      | succ m =>
        simp only [State.ownRecords, ho, if_true]
        exact ih _ m (by omega) (by omega)

/-- A PAD or a reserved TYPE at the head is taken, and then whatever of the kind comes to the head (R57). -/
theorem State.handleOwn_step (s : State) (h : s.lane.ownHead = true) :
    s.handleOwn = s.padRecord.reservedRecord.handleOwn := by
  have hs := (s.ownStep_records h).1
  obtain ⟨m, hm⟩ : ∃ m, s.lane.records = m + 1 := ⟨s.lane.records - 1, by omega⟩
  have h1 : s.handleOwn = s.padRecord.reservedRecord.ownRecords m := by
    simp [State.handleOwn, hm, State.ownRecords, h]
  rw [h1]
  exact State.ownRecords_enough _ _ _ (by omega) le_rfl

/-- What handling its own records leaves the lane with: none of them at the head, no more records, and the host's as they
were. -/
theorem State.ownRecords_spec (s : State) (n : Nat) (hn : s.lane.records ≤ n) :
    (s.ownRecords n).lane.ownHead = false ∧ (s.ownRecords n).lane.records ≤ s.lane.records
      ∧ (s.ownRecords n).hostFifo = s.hostFifo := by
  induction n generalizing s with
  | zero =>
    have ho : s.lane.ownHead = false := by
      by_contra hc
      have := (s.ownStep_records (by simpa using hc)).1
      omega
    exact ⟨ho, le_rfl, rfl⟩
  | succ n ih =>
    cases ho : s.lane.ownHead
    · rw [s.ownRecords_of_no_head ho]
      exact ⟨ho, le_rfl, rfl⟩
    · have hs := s.ownStep_records ho
      have hi := ih s.padRecord.reservedRecord (by omega)
      simp only [State.ownRecords, ho, if_true]
      exact ⟨hi.1, by omega, by rw [hi.2.2, hs.2]⟩

theorem State.handleOwn_spec (s : State) :
    s.handleOwn.lane.ownHead = false ∧ s.handleOwn.recordsHeld ≤ s.recordsHeld := by
  have h := s.ownRecords_spec s.lane.records le_rfl
  refine ⟨h.1, ?_⟩
  simp only [State.recordsHeld, State.handleOwn, h.2.2]
  omega

/-! ### The head records that are taken at once -/

/-- All that MARKER_REGISTRATION can do: the MARK at the head registers in the slot that `pick` names, or nothing is due
and nothing happens (R122). -/
theorem State.markRecord_cases (s : State) :
    (∃ q r slot, s.lane.head = some (q, r) ∧ r.type = .mark ∧ s.markers.pick = some slot ∧ s.markDue = true
        ∧ s.markRecord = s.registerMarker slot r.bin)
      ∨ (s.markDue = false ∧ s.markRecord = s) := by
  simp only [State.markRecord, State.markDue]
  cases hh : s.lane.head with
  | none => exact .inr ⟨rfl, rfl⟩
  | some x =>
    obtain ⟨q, r⟩ := x
    cases hp : s.markers.pick with
    | none => exact .inr ⟨by simp, rfl⟩
    | some slot =>
      by_cases ht : r.type = .mark
      · exact .inl ⟨q, r, slot, rfl, ht, rfl, by simp [ht], by simp [ht]⟩
      · exact .inr (by simp [ht])

/-- The registration of a marker takes its record. -/
theorem State.registerMarker_records (s : State) (slot : MarkerSlot) (value : Half) (q : Byte) (r : UpdateRecord)
    (h : s.lane.head = some (q, r)) : (s.registerMarker slot value).lane.records + 1 = s.lane.records :=
  State.laneHandled_records _ q r h

/-- A head record that is taken at once leaves fewer records. -/
theorem State.headStep_records (s : State) (h : (s.lane.ownHead || s.markDue) = true) :
    s.padRecord.reservedRecord.markRecord.lane.records < s.lane.records := by
  have mark : ∀ t : State, t.markRecord.lane.records ≤ t.lane.records := by
    intro t
    rcases t.markRecord_cases with ⟨q, r, slot, hh, -, -, -, he⟩ | ⟨-, he⟩
    · have := t.registerMarker_records slot r.bin q r hh
      rw [he]
      omega
    · rw [he]
  cases ho : s.lane.ownHead
  · have own : s.padRecord.reservedRecord = s := by
      have := s.ownRecords_of_no_head ho 1
      simp only [Lane.ownHead] at ho
      split at ho <;> rename_i hh <;> simp_all [State.padRecord, State.reservedRecord]
    rw [own]
    rcases s.markRecord_cases with ⟨q, r, slot, hh, -, -, -, he⟩ | ⟨hd, -⟩
    · have := s.registerMarker_records slot r.bin q r hh
      rw [he]
      omega
    · simp [ho, hd] at h
  · have := (s.ownStep_records ho).1
    have := mark s.padRecord.reservedRecord
    omega

/-- With enough turns the number of turns does not matter. -/
theorem State.headRecords_enough (s : State) (n m : Nat) (hn : s.lane.records ≤ n) (hm : s.lane.records ≤ m) :
    s.headRecords n = s.headRecords m := by
  have done : ∀ t : State, t.lane.records = 0 → ∀ k, t.headRecords k = t := by
    intro t ht k
    have hd : (t.lane.ownHead || t.markDue) = false := by
      by_contra hc
      have := t.headStep_records (Bool.eq_true_of_not_eq_false hc)
      omega
    cases k <;> simp [State.headRecords, hd]
  induction n generalizing s m with
  | zero => rw [done s (by omega), done s (by omega)]
  | succ n ih =>
    cases m with
    | zero => rw [done s (by omega), done s (by omega)]
    | succ m =>
      simp only [State.headRecords]
      split
      · have := s.headStep_records ‹_›
        exact ih _ m (by omega) (by omega)
      · rfl

/-- A head record that is taken at once is taken, and then whatever of the kind comes to the head (R57, R122). -/
theorem State.takeHeads_step (s : State) (h : (s.lane.ownHead || s.markDue) = true) :
    s.takeHeads = s.padRecord.reservedRecord.markRecord.takeHeads := by
  have hs := s.headStep_records h
  obtain ⟨m, hm⟩ : ∃ m, s.lane.records = m + 1 := ⟨s.lane.records - 1, by omega⟩
  have h1 : s.takeHeads = s.padRecord.reservedRecord.markRecord.headRecords m := by
    simp [State.takeHeads, hm, State.headRecords, h]
  rw [h1]
  exact State.headRecords_enough _ _ _ (by omega) le_rfl

/-- Taking the head records leaves none that is taken at once (R57, R122). -/
theorem State.takeHeads_spec (s : State) : s.takeHeads.lane.ownHead = false ∧ s.takeHeads.markDue = false := by
  have spec : ∀ (n : Nat) (t : State), t.lane.records ≤ n →
      (t.headRecords n).lane.ownHead = false ∧ (t.headRecords n).markDue = false := by
    intro n
    induction n with
    | zero =>
      intro t ht
      have hd : (t.lane.ownHead || t.markDue) = false := by
        by_contra hc
        have := t.headStep_records (Bool.eq_true_of_not_eq_false hc)
        omega
      simpa [State.headRecords] using hd
    | succ n ih =>
      intro t ht
      simp only [State.headRecords]
      split
      · have := t.headStep_records ‹_›
        exact ih _ (by omega)
      · rename_i hd
        simpa using hd
  exact spec _ s le_rfl

/-! ### The chain of offers -/

/-- A departing head takes one record with it. -/
theorem State.depart_recordsHeld (s : State) (src : Source) (r : HostRecord) (h : s.headRecord src = some r) :
    (s.depart src).recordsHeld + 1 = s.recordsHeld := by
  cases src with
  | lane =>
    simp only [State.headRecord] at h
    split at h
    · simp at h
    · rename_i q x hx
      have := s.laneHandled_records q x hx
      simp only [State.recordsHeld, State.depart, s.laneHandled_hostFifo]
      omega
  | host =>
    simp only [State.headRecord] at h
    cases hf : s.hostFifo with
    | nil => simp [hf] at h
    | cons x xs =>
      simp only [State.recordsHeld, State.depart, State.hostDeparted, hf, List.tail_cons, List.length_cons]
      omega

/-- A rejection takes one record; any other offer takes at most one. -/
theorem State.offer_recordsHeld (s : State) (src : Source) :
    ((s.offer src).2 = true → (s.offer src).1.recordsHeld + 1 = s.recordsHeld)
      ∧ (s.offer src).1.recordsHeld ≤ s.recordsHeld := by
  have dep : ∀ (t : State) r, t.headRecord src = some r → (t.depart src).recordsHeld ≤ t.recordsHeld := by
    intro t r h
    have := t.depart_recordsHeld src r h
    omega
  have opens : ∀ (t : State) r (x : HostRecord) v, t.headRecord src = some r →
      (t.openEntry src x v).recordsHeld ≤ t.recordsHeld := by
    intro t r x v h
    simp only [State.openEntry]
    split
    · exact dep { t with entries := t.entries ++ [t.newEntry src x v] } r (by cases src <;> exact h)
    · cases src <;> exact le_rfl
  rcases s.offer_cases src with ⟨-, h⟩ | ⟨r, reason, hr, -, h⟩ | ⟨r, hr, -, h⟩
  · simp [h]
  · have hd : (s.reject src r reason).recordsHeld + 1 = s.recordsHeld := by
      have := State.depart_recordsHeld
        (s.setRegion r.region { s.region r.region with
          rejectCount := satInc (s.region r.region).rejectCount, rejectSeen := true }) src r
        (by cases src <;> exact hr)
      simp only [State.reject]
      split
      · exact this
      · simpa [State.recordsHeld] using this
    rw [h]
    exact ⟨fun _ => hd, by simp only; omega⟩
  · rw [h]
    refine ⟨by simp, ?_⟩
    rcases s.place_cases src r (scaledValue (s.region r.region).desc r.value) with ⟨e, -, -, hp⟩ | ⟨-, hp⟩ | ⟨e, -, -, hp⟩
    · simp only [hp]
      exact dep _ r (by cases src <;> exact hr)
    · simp only [hp]
      exact opens s r r _ hr
    · simp only [hp]
      exact opens _ r r _ (by cases src <;> exact hr)

/-- A round that rejects a record leaves fewer records. -/
theorem State.round_recordsHeld (s : State) (l h : Bool) :
    (((s.round l h).laneRejected || (s.round l h).hostRejected) = true →
        (s.round l h).state.recordsHeld < s.recordsHeld)
      ∧ (s.round l h).state.recordsHeld ≤ s.recordsHeld := by
  have two : ∀ (t : State) (x y : Source), t.recordsHeld = s.recordsHeld →
      (((t.offer x).2 = true ∨ ((t.offer x).1.offer y).2 = true) → ((t.offer x).1.offer y).1.recordsHeld < s.recordsHeld)
        ∧ ((t.offer x).1.offer y).1.recordsHeld ≤ s.recordsHeld := by
    intro t x y ht
    have a := t.offer_recordsHeld x
    have b := (t.offer x).1.offer_recordsHeld y
    refine ⟨fun hr => ?_, by omega⟩
    rcases hr with hr | hr
    · have := a.1 hr; omega
    · have := b.1 hr; omega
  have one : ∀ (t : State) (x : Source), t.recordsHeld = s.recordsHeld →
      ((t.offer x).2 = true → (t.offer x).1.recordsHeld < s.recordsHeld)
        ∧ (t.offer x).1.recordsHeld ≤ s.recordsHeld := by
    intro t x ht
    have a := t.offer_recordsHeld x
    exact ⟨fun hr => by have := a.1 hr; omega, by omega⟩
  simp only [State.round]
  split
  · split
    · have := two { s with turn := .host } .lane .host rfl
      exact ⟨fun hr => this.1 (by simpa using hr), this.2⟩
    · have := two { s with turn := .lane } .host .lane rfl
      exact ⟨fun hr => this.1 (by simpa [or_comm] using hr), this.2⟩
  · split
    · have := one { s with turn := .host } .lane rfl
      exact ⟨fun hr => this.1 (by simpa using hr), this.2⟩
    · split
      · have := one { s with turn := .lane } .host rfl
        exact ⟨fun hr => this.1 (by simpa using hr), this.2⟩
      · exact ⟨fun hr => by simp at hr, le_rfl⟩

/-- With enough rounds the bound does not matter. -/
theorem State.rounds_enough (s : State) (l h : Bool) (n m : Nat) (hn : s.recordsHeld < n) (hm : s.recordsHeld < m) :
    s.rounds l h n = s.rounds l h m := by
  induction n generalizing s l h m with
  | zero => omega
  | succ n ih =>
    cases m with
    | zero => omega
    | succ m =>
      simp only [State.rounds]
      split
      · rename_i hr
        have hlt := (s.round_recordsHeld l h).1 hr
        have hle : (if (s.round l h).laneRejected then (s.round l h).state.handleOwn
            else (s.round l h).state).recordsHeld ≤ (s.round l h).state.recordsHeld := by
          split
          · exact (State.handleOwn_spec _).2
          · exact le_rfl
        exact ih _ _ _ m (by omega) (by omega)
      · rfl

/-- The chain of offers: one round, and where it rejects, the offers that follow at once (R88, R90). -/
theorem State.offers_eq (s : State) (l h : Bool) :
    s.offers l h =
      let r := s.round l h
      let t := if r.laneRejected then r.state.handleOwn else r.state
      t.offers (r.laneRejected && t.ready .lane) (r.hostRejected && t.ready .host) := by
  simp only [State.offers]
  conv => lhs; rw [State.rounds]
  split
  · rename_i hr
    have hlt := (s.round_recordsHeld l h).1 hr
    have hle : (if (s.round l h).laneRejected then (s.round l h).state.handleOwn
        else (s.round l h).state).recordsHeld ≤ (s.round l h).state.recordsHeld := by
      split
      · exact (State.handleOwn_spec _).2
      · exact le_rfl
    refine State.rounds_enough _ _ _ _ _ ?_ ?_
    · simp only [State.recordsHeld] at *; omega
    · simp only [State.recordsHeld] at *; omega
  · rename_i hr
    simp only [Bool.or_eq_true, not_or, Bool.not_eq_true] at hr
    simp [hr.1, hr.2, State.rounds, State.round_none]

end Sys2Proof.Machine
end

