-- ==== Sys2Proof/Tests/Slice0.lean ====
section
/-! SUPPORT. Tests of the model on fixed values: the checks of WellFormed on ill-formed commands, the worked examples of
spec/, single commands on small states, and for each statement with hypotheses a state that meets them. -/

namespace Sys2Proof.Tests

-- One proof at a time: every test evaluates in the kernel, and tests that wait for it in parallel each take a thread.
set_option Elab.async false

open Sys2Proof.Machine

/-! ### Small states -/

/-- The part in a power state, with nothing in progress. -/
def at_ (p : PowerState) : State :=
  { State.reset with
    power := { state := p, held := false, fillObligation := false, fillRow := none, initEnd := none } }

/-- The part in RUN. -/
def run : State := at_ .run

/-- The part in a power state with SSEL_N low and no byte received. -/
def selected (p : PowerState) : State := { at_ p with host := { State.reset.host with tx := .opcode } }

/-- The command with its right CRC byte. -/
def sealed_ (c : Byte → Instr) : Instr :=
  match requestOf (c 0#8) with
  | some (op, body, _) => c (crc8 (opcodeByte op :: body))
  | none => c 0#8

/-- The state after a command; where the command stops, the state before it. -/
def after (c : Instr) (s : State) : State :=
  match exec c s with
  | .next t => t
  | .fault _ | .refused _ => s

/-- A request, answered, and its clean end. -/
def whole (c : Byte → Instr) (s : State) : State := after .cleanEnd (after (sealed_ c) s)

/-- The response code decided, if the port is in RESPONSE. -/
def code (s : State) : Option ResponseCode :=
  match s.host.tx with
  | .response _ d => some d.code
  | _ => none

/-- A descriptor at word 0. -/
def desc (f : Format) (o : Operator) : Descriptor :=
  { base := 0#21, binsMinus1 := 7#16, format := f, operator := o, decayShift := 0#4, rounding := .floor,
    inputShift := 0#3, laneOk := true, hostOk := true }

/-- The state with region 2 LIVE under a descriptor. -/
def live (d : Descriptor) (s : State) : State := s.setRegion 2#4 { Region.blank with state := .live, desc := d }

/-- An entry of region 2 from the lane. -/
def entry (b : BinIx) (o : Operator) (p : Int) : Entry :=
  { region := 2#4, bin := b, operator := o, part := p, merges := 1, isSealed := false, age := 0, fromLane := true,
    fromHost := false, post := false, waits := { fence := false, mark0 := false, mark1 := false } }

/-- Parameter bytes from a list, byte 0 first, the rest zero. -/
def params (bytes : List Byte) : BitVec 96 :=
  (bytes ++ List.replicate (12 - bytes.length) 0#8).foldl (fun p b => (p <<< 8) ||| b.zeroExtend 96) 0#96

/-- The state with one queued command at the head of the Command Queue. -/
def queued (k : CommandKind) (bytes : List Byte) (s : State) : State :=
  { s with commands := [{ ticket := 5#4, kind := k, params := params bytes, mark := 0 }] }

/-- A frame around its covered bytes, with a right CRC. -/
def frame (covered : List Byte) : Frame := { bytes := covered ++ halfBytes (crc16 covered), oddSample := false }

/-- The samples of a frame on the pins, the high nibble of a byte first, and the low sample that ends it (R1, R51). -/
def samplesOf (f : Frame) : List LaneSample :=
  ((f.bytes.flatMap fun b => [b.extractLsb' 4 4, b.extractLsb' 0 4]) ++ (if f.oddSample then [0#4] else [])).map
      (fun n => { lfrm := true, ld := n })
    ++ [{ lfrm := false, ld := 0#4 }]

/-- The lane in a state, with LFRM low at its last sample. -/
def laned (l : LaneState) (s : State) : State :=
  { s with
    lane := { s.lane with state := l, wire := .low }
    laneControl := { s.laneControl with enable := true } }

/-- An operation on bin 1 of region 2, with its words and entries. -/
def operation (d : Descriptor) (low high : Cell) (es : List Entry) : CounterOp :=
  { region := 2#4, bin := 1#16, desc := d, low := low, high := high, withdrawn := es, forwarded := [], inject := .none }

/-- The state with region 2 LIVE and an operation in progress. -/
def busy (d : Descriptor) (op : ArrayOp) : State :=
  { live d run with array := { run.array with op := some op } }

/-- A sweep of bins 1 to 2 of region 2. -/
def sweeping (st : SweepState) : Sweep :=
  { ticket := 6#4, region := 2#4, first := 1#16, last := 2#16, isDrain := false, isConsistent := false, tag := 4#4,
    state := st, cursor := 1 }

/-! ### WellFormed refuses what no pins can spell -/

theorem test_wf_no_record : (Instr.postUpdates [] 0#8).wellFormed = false := by decide
theorem test_wf_five_records :
    (Instr.postUpdates (List.replicate 5 { type := .update, ignored := 0#2, region := 0#4, bin := 0#16, value := 0#32 })
      0#8).wellFormed = false := by decide
theorem test_wf_sink_assigned_opcode : (Instr.sink (.badOpcode 0x05#8)).wellFormed = false := by decide
theorem test_wf_sink_good_count : (Instr.sink (.badCount 4#8)).wellFormed = false := by decide
theorem test_wf_trim_up_without_action : (Instr.trimUp 0x481#32 0#8).wellFormed = false := by decide
theorem test_wf_trim_down_other_action : (Instr.trimDown 0x10481#32 0#8).wellFormed = false := by decide
theorem test_wf_lane_reset_other_action : (Instr.laneReset 0x20481#32 0#8).wellFormed = false := by decide
theorem test_wf_lane_enable_with_action : (Instr.laneEnable 0x30481#32 0#8).wellFormed = false := by decide
theorem test_wf_region_status_with_clear_count : (Instr.regionStatus 0#4 0x100#32 0#8).wellFormed = false := by decide
theorem test_wf_clear_count_without : (Instr.clearCount 0#4 0xF0#32 0#8).wellFormed = false := by decide
theorem test_wf_data_frame_without_sample : (Instr.dataFrame []).wellFormed = false := by decide
theorem test_wf_training_frame_without_sample : (Instr.trainingFrame []).wellFormed = false := by decide

/-! ### Worked examples of the spec -/

/-- Section 1.3: CRC of one-byte requests and of an ACCEPT with an empty body. -/
theorem test_crc8_examples : crc8 [0x05#8] = 0xE8#8 ∧ crc8 [0x50#8] = 0x44#8 ∧ crc8 [0x00#8] = 0xF3#8 := by decide

/-- R54: the check value of the digits 1 to 9. -/
theorem test_crc16_check_value :
    crc16 [0x31#8, 0x32#8, 0x33#8, 0x34#8, 0x35#8, 0x36#8, 0x37#8, 0x38#8, 0x39#8] = 0x29B1#16 := by
  decide +kernel

/-- Section 3.3: "add 37 to bin 1,204 of region 3" on the lane. -/
theorem test_update_record_example :
    parseRecords [0x43#8, 0x04#8, 0xB4#8, 0x00#8, 0x00#8, 0x00#8, 0x25#8]
      = [{ type := .update, ignored := 0#2, region := 3#4, bin := 1204#16, value := 37#32 }] := by decide

/-- The table of R97. -/
theorem test_rounding_table :
    [(7, 2), (6, 2), (10, 2), (-5, 1), (-7, 2), (-2147483648, 7), (2147483647, 1)].map
        (fun q : Int × Nat => [Rounding.floor, .halfUp, .halfEven].map fun r => roundedQuotient r q.1 q.2)
      = [[1, 2, 2], [1, 2, 2], [2, 3, 2], [-3, -2, -2], [-2, -2, -2], [-16777216, -16777216, -16777216],
          [1073741823, 1073741824, 1073741824]] := by decide

/-- Section 5.7: decay-and-add on an S32 counter, P = +4, k = 3. -/
theorem test_decay_table :
    [-13, -12, -20, 12, 20].map
        (fun x : Int => [Rounding.floor, .halfUp, .halfEven].map fun r =>
          (applyOperator .decayAdd { desc .s32 .decayAdd with decayShift := 3#4, rounding := r } x 4).value)
      = [[-7, -7, -7], [-6, -7, -6], [-13, -14, -14], [15, 14, 14], [22, 21, 22]] := by decide

/-- Section 5.7: a decay that clamps at the S32 minimum. -/
theorem test_decay_clamps :
    applyOperator .decayAdd { desc .s32 .decayAdd with decayShift := 3#4 } (-20) (-2147483640)
      = { value := -2147483648, sat := true, wrap := false } := by decide

/-- Section 5.7: saturating add near the top of a U32 counter, in two entries and in one. -/
theorem test_saturating_example :
    applyOperator .addSat (desc .u32 .addSat) 4294967290 13 = { value := 4294967295, sat := true, wrap := false }
      ∧ applyOperator .addSat (desc .u32 .addSat) 4294967295 (-5)
        = { value := 4294967290, sat := false, wrap := false }
      ∧ mergeAllowed .addSat 3 10 = true ∧ mergeAllowed .addSat 13 (-5) = false := by decide

/-- Section 5.7 and R99: wrapping adds in U64 and in U32. -/
theorem test_wrapping_example :
    applyOperator .addWrap (desc .u64 .addWrap) 4294967280 6000000000
        = { value := 10294967280, sat := false, wrap := false }
      ∧ applyOperator .addWrap (desc .u64 .addWrap) 18446744073709551360 300
        = { value := 44, sat := false, wrap := true }
      ∧ applyOperator .addWrap (desc .u32 .addWrap) 0 (-4294967297)
        = { value := 4294967295, sat := false, wrap := true } := by decide

/-- Section 5.7: the carry between the halves, and the bytes of the sweep record. -/
theorem test_wide_words_example :
    highWord (Format.u64.encode 10294967280) = 2#32 ∧ lowWord (Format.u64.encode 10294967280) = 0x65A0BBF0#32
      ∧ (readoutBytes { seq := 0#8, tag := 0#4, poisoned := false, last := false, truncated := false, wide := true,
                        bin := 0#16, value := Format.u64.encode 10294967280 }).drop 4
        = [0x00#8, 0x00#8, 0x00#8, 0x02#8, 0x65#8, 0xA0#8, 0xBB#8, 0xF0#8] := by decide

/-- Section 5.7: max-hold on an unsigned counter with negative inputs. -/
theorem test_max_hold_example :
    mergedPartial .max (mergedPartial .max (-7) 12) (-3) = 12
      ∧ applyOperator .max (desc .u64 .max) 0 12 = { value := 12, sat := false, wrap := false }
      ∧ applyOperator .max (desc .u64 .max) 0 (-3) = { value := 0, sat := false, wrap := false }
      ∧ applyOperator .max (desc .s64 .max) (-9223372036854775808) (-3)
        = { value := -3, sat := false, wrap := false } := by decide

/-- R62: the trims that its four scoreboards select. -/
theorem test_trim_examples :
    selectTrim 0b0001111001111100#16 = some 4#4 ∧ selectTrim 0b0001110000111000#16 = some 4#4
      ∧ selectTrim 0b0000000110000000#16 = some 7#4 ∧ selectTrim 0xFFFF#16 = some 7#4 := by decide

/-- Sections 4.7 and 8.1: where bin 1,204 of a U64 region at 65,536 lies. -/
theorem test_address_example :
    counterWords { desc .u64 .max with base := 65536#21, binsMinus1 := 2047#16 } 1204#16 = [67944, 67945]
      ∧ bankOf 67944 = 0 ∧ columnOf 67944 = 45#6 ∧ rowOf 67944 = 132#12 := by decide

/-- Section 4.7: the parameter bytes of the DEFINE of region 3, and its span. -/
theorem test_define_parameters_example :
    (paramRegion (params [0x03#8, 0x01#8, 0x00#8, 0x00#8, 0x07#8, 0xFF#8, 0x02#8, 0x02#8, 0x00#8, 0x00#8, 0x00#8, 0x01#8])
        = 3#4)
      ∧ rawDescriptorOf
          (params [0x03#8, 0x01#8, 0x00#8, 0x00#8, 0x07#8, 0xFF#8, 0x02#8, 0x02#8, 0x00#8, 0x00#8, 0x00#8, 0x01#8])
        = { base := 65536#24, binsMinus1 := 2047#16, format := 2#8, operator := 2#8, decayShift := 0#8,
            rounding := 0#8, inputShift := 0#8, permits := 1#8 }
      ∧ ({ desc .u64 .max with base := 65536#21, binsMinus1 := 2047#16 } : Descriptor).endWord = 69632 := by decide

/-- R82 and section 4.7: sharing a word and being adjacent. -/
theorem test_overlap_example :
    ({ desc .u64 .max with base := 65536#21, binsMinus1 := 2047#16 } : Descriptor).overlaps
        { desc .u32 .addSat with base := 69624#21, binsMinus1 := 8191#16 } = true
      ∧ ({ desc .u64 .max with base := 65536#21, binsMinus1 := 2047#16 } : Descriptor).overlaps
        { desc .u32 .addSat with base := 69632#21, binsMinus1 := 8191#16 } = false := by decide

/-! ### Host Port commands -/

/-- R9: after a power-on reset RDY is 0 and no bit is set; in RETAIN RDY and RET are. -/
theorem test_ssel_n_fall :
    (after (.sselNFall true) State.reset).host.statusByte = 0x00#8
      ∧ (after (.sselNFall true) State.reset).host.mode = .mode3
      ∧ (after (.sselNFall false) (at_ .retain)).host.statusByte = 0x81#8 := by decide +kernel

/-- R20, section 1.3: STATUS is the bytes 0x05, 0xE8; it is answered in INIT. -/
theorem test_status :
    (match (after (.status 0xE8#8) (selected .init)).host.tx with
      | .response _ d => some d.body
      | _ => none) = some [0x00#8, 0#8, 0#8, 0#8, 0#8, 0#8] := by decide +kernel

/-- R21, section 11.2: DEVICE_ID, and an unassigned index. -/
theorem test_reg_read :
    (match (after (sealed_ (.regRead 0x00#8)) (selected .run)).host.tx with
      | .response _ d => some d.body
      | _ => none) = some [0x6D#8, 0x08#8, 0x16#8, 0x01#8]
      ∧ code (after (sealed_ (.regRead 0x1F#8)) (selected .run)) = some .badField := by decide +kernel

/-- R22: TB_DIV 4,096 is taken, 4,097 is not. -/
theorem test_reg_write :
    (whole (.regWrite 0x02#8 4096#32) (selected .run)).timebase.tbDiv = 4096#13
      ∧ code (after (sealed_ (.regWrite 0x02#8 4097#32)) (selected .run)) = some .badField := by decide +kernel

/-- R23: a record enters the FIFO; a MARK in it refuses the whole request. -/
theorem test_post_updates :
    (whole (.postUpdates [{ type := .update, ignored := 3#2, region := 15#4, bin := 0xFFFF#16, value := 7#32 }])
        (selected .run)).hostFifo = [{ region := 15#4, bin := 0xFFFF#16, value := 7#32 }]
      ∧ code (after (sealed_ (.postUpdates
          [{ type := .mark, ignored := 0#2, region := 0#4, bin := 1#16, value := 0#32 }])) (selected .run))
        = some .badField := by decide +kernel

/-- R25, R31, R34: the mark is the number of host records ahead; kind 0x05 is unknown. -/
theorem test_submit :
    (whole (.submit 0x29#8 0x30#8 (params [1#8]))
        { selected .run with hostFifo := [{ region := 0#4, bin := 0#16, value := 0#32 }] }).commands
        = [{ ticket := 9#4, kind := .fence, params := params [1#8], mark := 1 }]
      ∧ code (after (sealed_ (.submit 0#8 0x05#8 0#96)) (selected .run)) = some .badField := by decide +kernel

/-- R26, R44: an OK completion with ticket 3 is 0x03, 0x00, and leaves the queue. -/
theorem test_take_completion :
    (match (after (sealed_ .takeCompletion)
        { selected .retain with completions := [plainCompletion 3#4 .ok] }).host.tx with
      | .response _ d => some d.body
      | _ => none) = some [0x03#8, 0x00#8]
      ∧ (whole .takeCompletion { selected .run with completions := [plainCompletion 3#4 .ok] }).completions = [] := by
  decide +kernel

/-- R27: M of 9 is refused; an empty FIFO answers EMPTY. -/
theorem test_take_readout :
    code (after (sealed_ (.takeReadout 9#8)) (selected .run)) = some .badField
      ∧ code (after (sealed_ (.takeReadout 8#8)) (selected .run)) = some .empty := by decide +kernel

/-- R28: the oldest event leaves, LOST stays. -/
theorem test_take_event :
    (whole .takeEvent
        { selected .run with
          eventLog := [run.event .laneSeq .lane none 1#16, run.event .laneSeq .lane none 2#16]
          lost := 3#8 }).eventLog = [run.event .laneSeq .lane none 2#16]
      ∧ (whole .takeEvent { selected .run with eventLog := [run.event .laneSeq .lane none 1#16], lost := 3#8 }).lost
        = 3#8 := by decide +kernel

/-- R169, section 1.3: WAKE is the bytes 0x50, 0x44; it takes RETAIN to RUN and sets POWER. -/
theorem test_wake :
    (after .cleanEnd (after (.wake 0x44#8) (selected .retain))).power.state = .run
      ∧ (after .cleanEnd (after (.wake 0x44#8) (selected .retain))).alerts.sticky = 0x800#12 := by decide +kernel

/-- R30: the first SOFT_RESET arms; the second logs SOFT_RESET in RUN. -/
theorem test_soft_reset :
    (whole .softReset (selected .run)).host.armed = true
      ∧ (whole .softReset { selected .quiescing with
          host := { (selected .quiescing).host with armed := true }, hostParked := true }).power.state = .run := by decide +kernel

/-- R16: an early end sets ERR and logs HOST_FRAMING with reason EARLY_END and the opcode. -/
theorem test_early_end :
    ((after (.earlyEnd .submit) (selected .run)).eventLog.map fun e => (e.code, e.detail)) = [(.hostFraming, 0x3001#16)]
      ∧ (after (.earlyEnd .submit) (selected .run)).host.prevOutcome = true := by decide +kernel

/-- R17: an unassigned opcode leads to SINK with reason BAD_OPCODE. -/
theorem test_sink :
    ((after (.sink (.badOpcode 0x77#8)) (selected .init)).eventLog.map fun e => e.detail) = [0x7703#16]
      ∧ (after (.sink (.badOpcode 0x77#8)) (selected .init)).host.tx = .sink := by decide +kernel

/-- R66: TRIM_UP stays at 15, TRIM_DOWN at 0. -/
theorem test_trim_steps :
    (whole (.trimUp 0x104F0#32) { selected .run with laneControl := { run.laneControl with trim := 15#4 } }).laneControl.trim
        = 15#4
      ∧ (whole (.trimDown 0x204F0#32)
          { selected .run with laneControl := { run.laneControl with trim := 0#4 } }).laneControl.trim = 0#4 := by decide +kernel

/-- Section 11.4: the LANE_CONTROL write 0x00030461, and 0x00030061, which is refused. -/
theorem test_lane_reset :
    (whole (.laneReset 0x00030461#32) (laned .locked (selected .run))).lane.state = .seek
      ∧ (whole (.laneReset 0x00030461#32) (laned .locked (selected .run))).lane.returnQueue = [.retrain]
      ∧ readRegister (whole (.laneReset 0x00030461#32) (laned .locked (selected .run))) .laneControl = 0x00000461#32
      ∧ code (after (sealed_ (.laneReset 0x00030061#32)) (laned .locked (selected .run))) = some .badField := by decide +kernel

/-- R59, R72: enabling an OFF lane takes it to SEEK; disabling it is a lane reset. -/
theorem test_lane_enable :
    (whole (.laneEnable 0x483#32) (selected .run)).lane.state = .seek
      ∧ ((whole (.laneEnable 0x482#32) (laned .locked (selected .run))).eventLog.map fun e => e.code)
        = [.laneReset] := by decide +kernel

/-- R156: bits 0 to 2 are ignored. -/
theorem test_alert_clear :
    (whole (.alertClear 0x00F#32) { selected .run with alerts := { sticky := 0xFF8#12, enable := 0#12 } }).alerts.sticky
      = 0xFF0#12 := by decide +kernel

/-- R159: any value sets LOST to 0. -/
theorem test_event_status : (whole (.eventStatus 0xFFFFFFFF#32) { selected .run with lost := 255#8 }).lost = 0#8 := by
  decide +kernel

/-- R3: a counter at its maximum stays there, and a write sets it to 0. -/
theorem test_statistics_counter_clear :
    (({ selected .run with stats := { Stats.zero with ueCount := 0xFFFF#16 } } : State).count .ueCount).stats.ueCount
        = 0xFFFF#16
      ∧ (whole (.statisticsCounterClear .ueCount 5#32)
          { selected .run with stats := { Stats.zero with ueCount := 0xFFFF#16 } }).stats.ueCount = 0#16 := by decide +kernel

/-- R92: the flags written as 1 are cleared, REJECT_COUNT only with CLEAR_COUNT. -/
theorem test_region_status :
    (match (whole (.regionStatus 2#4 0xA0#32) ((selected .run).setRegion 2#4
        { Region.blank with satSeen := true, wrapSeen := true, rejectSeen := true, rejectCount := 9#16 })).region 2#4 with
      | g => (g.satSeen, g.wrapSeen, g.rejectSeen, g.rejectCount)) = (true, false, false, 9#16)
      ∧ ((whole (.clearCount 2#4 0x100#32) ((selected .run).setRegion 2#4
          { Region.blank with satSeen := true, rejectCount := 9#16 })).region 2#4).rejectCount = 0#16 := by decide +kernel

/-- R152: MODE 2 is armed, MODE 3 refused. -/
theorem test_ecc_inject :
    (whole (.eccInject 2#32) (selected .run)).array.ecc = .double
      ∧ code (after (sealed_ (.eccInject 3#32)) (selected .run)) = some .badField := by decide +kernel

/-- R12, R15: a clean end with FULL sets ERR; R17: so does the end of SINK; R5: a low period without a byte keeps it. -/
theorem test_ends :
    (after .cleanEnd ((selected .run).decided .submit { code := .full, body := [], commit := .nothing })).host.prevOutcome
        = true
      ∧ (after .sinkEnd { run with host := { run.host with tx := .sink } }).host.prevOutcome = true
      ∧ (after .ignoredLowPeriod (selected .run)).host = { run.host with prevOutcome := false } := by decide +kernel

/-! ### Queued commands -/

/-- R81 and section 4.7: the DEFINE of region 3; then a base that is no multiple of 8. -/
theorem test_define :
    ((after .define (queued .define
        [0x03#8, 0x01#8, 0x00#8, 0x00#8, 0x07#8, 0xFF#8, 0x02#8, 0x02#8, 0x00#8, 0x00#8, 0x00#8, 0x01#8] run)).region
          3#4).state = .defined
      ∧ (after .define (queued .define [0x03#8, 0x01#8, 0x00#8, 0x04#8] run)).regionController
        = .posting (plainCompletion 5#4 .descriptor) false := by decide +kernel

/-- R83: the INIT of a DEFINED region starts the fill; R79: of an EMPTY one it answers STATE. -/
theorem test_init :
    (after .init (queued .init [2#8] (run.setRegion 2#4
        { Region.blank with state := .defined, desc := desc .u32 .min }))).regionController = .filling 5#4 2#4 0
      ∧ (after .init (queued .init [2#8] run)).regionController = .posting (plainCompletion 5#4 .state) false := by decide +kernel

/-- R85. -/
theorem test_adopt :
    ((after .adopt (queued .adopt [2#8] (run.setRegion 2#4
        { Region.blank with state := .defined, desc := desc .u32 .min }))).region 2#4).state = .live := by decide +kernel

/-- R86: the region's entries leave with it. -/
theorem test_retire :
    (after .retire (queued .retire [2#8] { live (desc .u32 .addSat) run with entries := [entry 1#16 .addSat 1] })).entries
      = [] := by decide +kernel

/-- R119, R120: the unit takes region, bin and value. -/
theorem test_bin_commands :
    (after .readBin (queued .readBin [2#8, 0x01#8, 0x02#8] run)).binUnit = .read 5#4 2#4 0x0102#16
      ∧ (after .writeBin (queued .writeBin [2#8, 0x01#8, 0x02#8, 0#8, 0#8, 0#8, 0#8, 0#8, 0#8, 0#8, 9#8] run)).binUnit
        = .write 5#4 2#4 0x0102#16 9#64 := by decide +kernel

/-- R128: LAST beyond the region's bins; then the whole region. -/
theorem test_sweep :
    (after .sweep (queued .sweep [2#8, 0#8, 0#8, 0#8, 8#8] (live (desc .u32 .addSat) run))).intake
        = [plainCompletion 5#4 .binRange]
      ∧ ((after .sweep (queued .sweep [2#8, 0#8, 1#8, 0#8, 7#8] (live (desc .u32 .addSat) run))).sweeps.map
          fun w => (w.cursor, w.last)) = [(1, 7#16)] := by decide +kernel

/-- R135: no sweep has the tag. -/
theorem test_cancel_sweep :
    (after .cancelSweep (queued .cancelSweep [3#8] run)).intake = [plainCompletion 5#4 .notFound] := by decide +kernel

/-- R40: without the LANE flag a lane entry stays OPEN and outside the wait set. -/
theorem test_fence :
    (after .fence (queued .fence [0#8] { run with entries := [entry 1#16 .addSat 1] })).entries = [entry 1#16 .addSat 1]
      ∧ ((after .fence (queued .fence [1#8] { run with entries := [entry 1#16 .addSat 1] })).entries.map
          fun e => (e.isSealed, e.waits.fence)) = [(true, true)] := by decide +kernel

/-- R42: QUIESCING, or REFUSED while a region fills. -/
theorem test_retain :
    (after .retain (queued .retain [] run)).power.state = .quiescing
      ∧ (after .retain (queued .retain [] (run.setRegion 0#4 { Region.blank with state := .initializing }))).retain
        = .refused 5#4 := by decide +kernel

/-! ### Updates and markers -/

/-- A host record at the head of the Host Update FIFO. -/
def posted (b : BinIx) (v : Word) (s : State) : State := { s with hostFifo := [{ region := 2#4, bin := b, value := v }] }

/-- One lane frame with one record in the Lane Receive Buffer. -/
def framed (t : RecordType) (b : BinIx) (s : State) : State :=
  laned .locked { s with
    lane := { s.lane with
      buffer := [{ seq := 9#8, records := [{ type := t, ignored := 0#2, region := 2#4, bin := b, value := 1#32 }] }] } }

/-- R89, R90: a bin of 8 in a region of 8 bins is rejected; R110: bin 7 opens an entry with the host as its source. -/
theorem test_update_acceptance :
    ((after .updateAcceptance (posted 8#16 1#32 (live (desc .u32 .addSat) run))).eventLog.map fun e => e.detail)
        = [0x0303#16]
      ∧ (after .updateAcceptance (posted 7#16 0xFFFFFFFF#32 (live (desc .u32 .addSat) run))).entries
        = [{ entry 7#16 .addSat (-1) with fromLane := false, fromHost := true }] := by decide +kernel

/-- R122: with both slots free after a reset, slot 0; R57: the frame's slot frees with a CREDIT (R71). -/
theorem test_marker_registration :
    (after .markerRegistration (framed .mark 0xBEEF#16 run)).markers.slot0 = some 0xBEEF#16
      ∧ (after .markerRegistration (framed .mark 0xBEEF#16 run)).lane.returnQueue = [.credit] := by decide +kernel

/-- R57: a PAD leaves no trace; a reserved TYPE is counted, with reason 4 and the SEQ. -/
theorem test_pad_and_reserved :
    (after .padRecord (framed .pad 0#16 run)).eventLog = [] ∧ (after .padRecord (framed .pad 0#16 run)).lane.buffer = []
      ∧ ((after .reservedRecord (framed .reserved 0#16 run)).eventLog.map fun e => (e.code, e.detail))
        = [(.laneFormat, 0x0409#16)]
      ∧ (after .reservedRecord (framed .reserved 0#16 run)).stats.formatErrors = 1#16 := by decide +kernel

/-- R52: RETRAIN is 0x3C, CREDIT 0x6A, READY with 4 slots 0x94; the head message is sent, and each edge of LCLK brings
its next bit, even in OFF. -/
theorem test_return_message :
    [LaneMessage.retrain, .credit, .ready 4#3].map laneMessageByte = [0x3C#8, 0x6A#8, 0x94#8]
      ∧ (after .returnMessage { run with lane := { run.lane with returnQueue := [.ready 4#3, .credit] } }).lane.lret
        = [false, true, false, false, true, false, true, false, false, true]
      ∧ (after (.dataFrame (List.replicate 8 { lfrm := false, ld := 0#4 })) (after .returnMessage
          { run with lane := { run.lane with returnQueue := [.ready 4#3] } })).lane.lret = [false, true]
      ∧ run.lane.lretLevel = true := by decide +kernel

/-- R57, R158: a frame that is a SEQ gap and begins with a reserved record; the events of the moment in ascending CODE. -/
theorem test_events_of_a_moment_by_code :
    ((after (.dataFrame (samplesOf (frame [0x11#8, 0x2A#8, 0xC3#8, 0x04#8, 0xB4#8, 0x00#8, 0x00#8, 0x00#8, 0x25#8])))
        (laned .locked run)).settle.eventLog.map fun e => (e.code, e.detail))
      = [(.laneFormat, 0x042A#16), (.laneSeq, 0x002A#16)] := by decide +kernel

/-- R57, R122, R158: the same frame with a MARK in front of the reserved record; the MARK registers at once, and the
reserved record behind it is handled in the same moment. -/
theorem test_mark_registers_at_once :
    (match State.settle (after (.dataFrame (samplesOf (frame [0x12#8, 0x2A#8,
          0x80#8, 0xBE#8, 0xEF#8, 0x00#8, 0x00#8, 0x00#8, 0x00#8,
          0xC3#8, 0x04#8, 0xB4#8, 0x00#8, 0x00#8, 0x00#8, 0x25#8]))) (laned .locked run)) with
      | t => (t.markers.slot0, t.eventLog.map fun e => (e.code, e.detail)))
      = (some 0xBEEF#16, [(.laneFormat, 0x042A#16), (.laneSeq, 0x002A#16)]) := by decide +kernel

/-- R51, R72: a frame in progress is abandoned by a lane reset, and its rest begins no frame in SEEK; the next one does. -/
theorem test_lane_reset_abandons_a_frame :
    (match after (.dataFrame ((samplesOf (frame [0x20#8, 0x00#8])).take 3)) (laned .locked (selected .run)) with
      | s => match whole (.laneReset 0x483#32) s with
        | t => (s.lane.wire, t.lane.wire,
            (after (.dataFrame ((samplesOf (frame [0x20#8, 0x00#8])).drop 3)) t).lane.state,
            (after (.dataFrame ((samplesOf (frame [0x20#8, 0x00#8])).drop 3 ++ samplesOf (frame [0x20#8, 0x00#8])))
              t).lane.state))
      = (.frame [2#4, 0#4, 0#4], .high, .seek, .train) := by decide +kernel

/-! ### Array operations -/

/-- R115, R117: with an OPEN entry below the watermark nothing is eligible; a SEALED one is withdrawn. -/
theorem test_commit :
    (after .commit { live (desc .u32 .addSat) run with entries := [entry 1#16 .addSat 5] }).entries
        = [entry 1#16 .addSat 5]
      ∧ (after .commit { live (desc .u32 .addSat) run with
          entries := [entry 0#16 .addSat 1, { entry 1#16 .addSat 5 with isSealed := true }] }).entries
        = [entry 0#16 .addSat 1] := by decide +kernel

/-- R117, R143: 3 + 5 in bin 1 is written, as one row miss. -/
theorem test_commit_completion :
    (after .commitCompletion (busy (desc .u32 .addSat)
        (.commit (operation (desc .u32 .addSat) (.clean 3#32) .marker [entry 1#16 .addSat 5])))).array.words
        = [(1, .clean 8#32)]
      ∧ (after .commitCompletion (busy (desc .u32 .addSat)
        (.commit (operation (desc .u32 .addSat) (.clean 3#32) .marker [entry 1#16 .addSat 5])))).stats.rowMisses
        = 1#32 := by decide +kernel

/-- R119: an EMPTY region fails the read at its grant. -/
theorem test_bin_read :
    (after .binRead { run with binUnit := .read 5#4 2#4 1#16 }).binUnit = .posting (plainCompletion 5#4 .state)
      ∧ (after .binRead { live (desc .u32 .addSat) run with
          binUnit := .read 5#4 2#4 1#16, entries := [entry 1#16 .addSat 5] }).entries = [] := by decide +kernel

/-- R119: the entry is applied before the value is delivered; a poisoned counter delivers zeros. -/
theorem test_bin_read_completion :
    (after .binReadCompletion (busy (desc .u32 .addSat)
        (.binRead 5#4 (operation (desc .u32 .addSat) (.clean 3#32) .marker [entry 1#16 .addSat 5])))).binUnit
        = .posting { plainCompletion 5#4 .ok with data := [8#32] }
      ∧ (after .binReadCompletion (busy (desc .u32 .addSat)
        (.binRead 5#4 (operation (desc .u32 .addSat) .marker .marker [])))).binUnit
        = .posting { plainCompletion 5#4 .ok with poisoned := true, data := [0#32] } := by decide +kernel

/-- R120: all entries of the bin leave unapplied; the value is written, the two halves in two words. -/
theorem test_bin_write :
    (after .binWrite { live (desc .u32 .addSat) run with
        binUnit := .write 5#4 2#4 1#16 9#64, entries := [entry 1#16 .addSat 5, entry 2#16 .addSat 5] }).entries
        = [entry 2#16 .addSat 5]
      ∧ (after .binWriteCompletion (busy (desc .s64 .max)
          (.binWrite 5#4 (operation (desc .s64 .max) .marker .marker []) 0x200000007#64))).array.words
        = [(2, .clean 7#32), (3, .clean 2#32)] := by decide +kernel

/-- R132: a RUNNING sweep steps its cursor's bin. -/
theorem test_sweep_step :
    ((after .sweepStep { live (desc .u32 .addSat) run with sweeps := [sweeping .running] }).array.op.map
        ArrayOp.withdrawn) = some [] ∧ (after .sweepStart { live (desc .u32 .addSat) run with
          sweeps := [sweeping .queued] }).sweeps = [sweeping .running] := by decide +kernel

/-- Section 8.4: an uncorrectable high half in a snapshot of bin 1: zeros with POISONED and WIDE, DETAIL 2. -/
theorem test_sweep_step_completion :
    (match after .sweepStepCompletion { busy (desc .s64 .addWrap)
          (.sweepStep (operation (desc .s64 .addWrap) (.clean 1000#32) (.double 0#32) [entry 1#16 .addWrap 5])) with
          sweeps := [sweeping .running] } with
      | t => (t.readout.map (fun r => (r.poisoned, r.wide, r.value)), t.eventLog.map (fun e => (e.code, e.detail)),
          t.stats.ueCount, (t.region 2#4).poisonSeen))
      = ([(true, true, 0#64)], [(.uncorrectable, 2#16)], 1#16, true) := by decide +kernel

/-- R136, R137: the terminal record of a sweep closed before its first step has BIN = FIRST. -/
theorem test_terminal_record :
    ((after .terminalRecord { run with sweeps := [sweeping .closing] }).readout.map readoutBytes)
      = [[0x00#8, 0x46#8, 0x00#8, 0x01#8]] := by decide +kernel

/-- R135, R136, R46: the terminal record of a cancelled sweep is placed at once, so the sweep's ABORTED is posted before
the OK of its CANCEL_SWEEP. -/
theorem test_cancelled_sweep_posts_first :
    (match after .completionPost (after .cancelSweep (queued .cancelSweep [4#8] { run with sweeps := [sweeping .running] }))
      with
      | t => (t.completions, t.readout.length, t.intake))
      = ([plainCompletion 6#4 .aborted], 1, [plainCompletion 5#4 .ok]) := by decide +kernel

/-- R83, R84, R87: the fill of an S32 MAX region writes its minimum, and after the last bin the region is LIVE. -/
theorem test_init_step :
    (after .initStep { (run.setRegion 2#4 { Region.blank with state := .initializing, desc := desc .s32 .max }) with
        regionController := .filling 5#4 2#4 7 }).array.op
        = some (.initStep { operation (desc .s32 .max) .marker .marker [] with bin := 7#16 })
      ∧ (match after .initStepCompletion
          { (busy (desc .s32 .max) (.initStep { operation (desc .s32 .max) .marker .marker [] with bin := 7#16 })) with
            regionController := .filling 5#4 2#4 7 } with
        | t => (t.array.words, (t.region 2#4).state)) = ([(7, .clean 0x80000000#32)], .live) := by decide +kernel

/-- R145, R146: a REFRESH is granted with debt 6, and pays one unit at its completion. -/
theorem test_refresh :
    (after .refresh { run with refreshTimer := { run.refreshTimer with debt := 6 } }).array.op = some .refresh
      ∧ (after .refreshCompletion { run with
          array := { run.array with op := some .refresh }
          refreshTimer := { run.refreshTimer with debt := 6 } }).refreshTimer.debt = 5 := by decide +kernel

/-- R153: from reset the fill of row 0 is granted; the last row ends the fill, with INITIALIZED after a fill. -/
theorem test_poison_fill :
    (after .poisonFill State.reset).array.op = some (.poisonFill 0)
      ∧ ((after .endOfInitialisation (after .poisonFillCompletion { State.reset with
          array := { State.reset.array with op := some (.poisonFill 4095), words := [(2097151, .clean 0#32)] }
          power := { State.reset.power with fillRow := none } })).eventLog.map fun e => (e.code, e.detail))
        = [(.initialized, 1#16)] := by decide +kernel

/-- R44, R46: a marker posts before the Bin Access Unit, its bytes as R44 lays them out. -/
theorem test_completion_post :
    ((after .completionPost { run with
        markers := { Markers.free with slot0 := some 0xC4#16 }, binUnit := .posting (plainCompletion 5#4 .ok) }
        ).completions.map completionBytes) = [[0x90#8, 0x00#8, 0x00#8, 0x00#8, 0x00#8, 0xC4#8]] := by decide +kernel

/-- R88, R90, R158: a COMMIT that saturates frees the slot of a parked record; it and the record behind it are rejected
in the same moment, and their events come before SATURATED. -/
theorem test_rejects_of_a_completion_by_code :
    (match after .commitCompletion { busy (desc .u32 .addSat)
          (.commit (operation (desc .u32 .addSat) (.clean 0xFFFFFFFF#32) .marker [entry 1#16 .addSat 5])) with
          hostParked := true
          hostFifo := [{ region := 3#4, bin := 0#16, value := 0#32 }, { region := 4#4, bin := 0#16, value := 0#32 }] }
      with
      | t => (t.hostFifo.length, t.eventLog.map fun e => (e.code, e.place.map Prod.fst)))
      = (0, [(.updateReject, some 3#4), (.updateReject, some 4#4), (.saturated, some 2#4)]) := by decide +kernel

/-- R112: a slot frees while the lane's record is parked and the host's stands unparked at its head; the pointer names
HOST, so the host's record takes the slot, and then the lane's finds the buffer full. -/
theorem test_reoffer_follows_the_pointer :
    (match after .commitCompletion { framed .update 2#16 (posted 1#16 1#32 (busy (desc .u32 .addSat)
          (.commit (operation (desc .u32 .addSat) (.clean 0#32) .marker [entry 0#16 .addSat 5])))) with
          turn := .host
          entries := List.replicate 15 { entry 3#16 .addSat 1 with isSealed := true }
          lane := { (framed .update 2#16 run).lane with parked := true } }
      with
      | t => (t.entries.length, t.hostFifo, t.lane.parked, t.turn, (t.entries.getLast?.map fun e => e.bin)))
      = (16, [], true, .lane, some 1#16) := by decide +kernel

/-- R80, R88: an ADOPT at whose action moment the lane's record is parked and the host's is not. The host's meets the region
before the command, DEFINED, and is rejected; the lane's is re-offered after it, and stays parked with the buffer full. -/
theorem test_updates_pass_before_an_action :
    (match after .adopt (queued .adopt [2#8] { framed .update 2#16 (posted 1#16 1#32
          (run.setRegion 2#4 { Region.blank with state := .defined, desc := desc .u32 .addSat })) with
          entries := List.replicate 16 { entry 3#16 .addSat 1 with isSealed := true }
          lane := { (framed .update 2#16 run).lane with parked := true } })
      with
      | t => (t.hostFifo, t.eventLog.map fun e => (e.code, e.detail), (t.region 2#4).state, t.lane.parked))
      = ([], [(.updateReject, 0x0101#16)], .live, true) := by decide +kernel

/-! ### The lane, time, power -/

/-- R68, R69, section 3.3: the frame of "add 37 to bin 1,204 of region 3" is accepted, and its SEQ is a gap. -/
theorem test_data_frame :
    (match after
        (.dataFrame (samplesOf (frame [0x11#8, 0x2A#8, 0x43#8, 0x04#8, 0xB4#8, 0x00#8, 0x00#8, 0x00#8, 0x25#8])))
        (laned .locked run) with
      | t => (t.lane.buffer.map (fun f => (f.seq, f.records.map UpdateRecord.bin)), t.lane.expectedSeq,
          t.eventLog.map (fun e => (e.code, e.detail))))
      = ([(42#8, [1204#16])], 43#8, [(.laneSeq, 0x002A#16)]) := by decide +kernel

/-- Section 9.4: the fourth bad frame in a row retrains. -/
theorem test_data_frame_bad_crc :
    (match after (.dataFrame (samplesOf { bytes := [0x11#8, 0x2B#8, 0x00#8, 0x00#8], oddSample := false }))
        { laned .locked run with lane := { (laned .locked run).lane with errors := 3#4 } } with
      | t => (t.eventLog.map (fun e => e.code), t.stats.crcErrors, t.stats.retrains, t.lane.state))
      = ([.laneCrc, .laneRetrain], 1#16, 1#16, .seek) := by decide +kernel

/-- R55: the TRAINING frame. -/
def trainingFrame : Frame :=
  frame [0x20#8, 0x00#8, 0x0F#8, 0xF0#8, 0x55#8, 0xAA#8, 0x33#8, 0xCC#8, 0x96#8, 0x69#8,
    0x0F#8, 0xF0#8, 0x55#8, 0xAA#8, 0x33#8, 0xCC#8, 0x96#8, 0x69#8]

/-- The lane in TRAIN at the last frame of a trim. -/
def lastFrame (auto : Bool) (trim : Trim) (s : State) : State :=
  { laned .train s with
    lane := { (laned .train s).lane with
      training := { auto := auto, trim := trim, dwell := 15, failed := false, scoreboard := 0x0100#16, matched := 0#16 } } }

/-- R61, R63, R64: a manual training passes at its trim and answers READY with 4 free slots; R60: SEEK goes to TRAIN. -/
theorem test_training_frame :
    (match after (.trainingFrame (samplesOf trainingFrame)) (lastFrame false 6#4 run) with
      | t => (t.lane.state, t.lane.trimInUse, t.lane.returnQueue)) = (.locked, 6#4, [.ready 4#3])
      ∧ (after (.trainingFrame (samplesOf trainingFrame)) (laned .seek run)).lane.state = .train := by decide +kernel

/-- R2: the count wraps; in RETAIN there is no tick. -/
theorem test_timebase_tick :
    (after .timebaseTick { run with timebase := { run.timebase with count := 0xFFFFFFFF#32 } }).timebase.count = 0#32
      ∧ (after .timebaseTick (at_ .retain)).timebase.count = 0#32 := by decide +kernel

/-- R114: AGE stays at 15. -/
theorem test_linger_tick :
    ((after .lingerTick { run with
        due := { Due.nothing with linger := true }
        entries := [{ entry 0#16 .max 1 with age := 15 }, { entry 1#16 .max 1 with age := 14 }] }).entries.map
          fun e => e.age) = [15, 15] := by decide +kernel

/-- R146, R147: a due event at debt 6 is an overrun. -/
theorem test_refresh_due :
    (match after .refreshDue { run with
        due := { Due.nothing with refresh := true }, refreshTimer := { run.refreshTimer with debt := 6 } } with
      | t => (t.refreshTimer.debt, t.stats.refreshOverruns, t.alerts.sticky)) = (6, 1#16, 0x200#12) := by decide +kernel

/-- R60, R61: a RETRAIN more; an abandoned training. -/
theorem test_lane_timers :
    (after .seekRetrainRepeat { laned .seek run with due := { Due.nothing with seekRepeat := true } }).lane.returnQueue
        = [.retrain]
      ∧ (after .trainTimeout { laned .train run with due := { Due.nothing with trainTimeout := true } }).lane.state
        = .seek := by decide +kernel

/-- R74: a parked UPDATE is named with DETAIL 1. -/
theorem test_lane_stall :
    ((after .laneStall { run with due := { Due.nothing with stall := some (.update 2#4 9#16) } }).eventLog.map
      fun e => (e.place, e.detail)) = [(some (2#4, 9#16), 1#16)] := by decide +kernel

/-- R165: a pin reset keeps the fill obligation, a power-on reset sets it, and the release starts the fill. -/
theorem test_resets :
    (after .resetRelease (after .pinReset run)).power.fillRow = none
      ∧ (after .resetRelease (after .powerOnReset run)).power.fillRow = some 0 := by decide +kernel

/-- R167: with nothing left the part enters RETAIN and posts OK. -/
theorem test_enter_retain :
    (match after .enterRetain { at_ .quiescing with retain := .quiescing 5#4 } with
      | t => (t.power.state, t.completions)) = (.retain, [plainCompletion 5#4 .ok]) := by decide +kernel

/-- A step takes the front command; an empty queue idles. -/
theorem test_step :
    step { run with pending := [.padRecord, .sinkEnd] } = .next { run with pending := [.sinkEnd] }
      ∧ step run = .next run := ⟨rfl, rfl⟩

/-- No row of the table has bits: no word spells a command. -/
theorem test_no_table_word : decodeTableWord 0 0 = none ∧ State.reset.withFetchWord 8 5 = State.reset := by
  decide +kernel

/-! ### Witnesses: states and operands that meet the hypotheses of each statement -/

/-- With every unit idle and no barrier, the head command is dispatched. -/
theorem dispatches_idle {s : State} {k : CommandKind} {c : QueuedCommand} {rest : List QueuedCommand}
    (h : s.commands = c :: rest ∧ c.kind = k ∧ c.mark = 0 ∧ s.fence = none ∧ s.retain = .none ∧ s.binUnit = .idle
      ∧ s.intake = []) (hc : s.regionController = .idle) : s.dispatches k c rest := by
  obtain ⟨h1, h2, h3, h4, h5, h6, h7⟩ := h
  exact ⟨h1, h2, h3, h4, h5, fun _ => hc, fun _ => h6, fun _ => h7, fun _ => ⟨h6, h7, by simp [hc], by simp [hc]⟩⟩

/-- With the Region Controller idle and nothing parked, nothing disturbs the end of an operation. -/
theorem undisturbed_idle {s : State} (h : s.unparked) (hc : s.regionController = .idle) : s.undisturbed :=
  ⟨h, by simp [hc]⟩

/-- The command answers a next state. -/
def answers (c : Instr) (s : State) : Bool :=
  match exec c s with
  | .next _ => true
  | .fault _ | .refused _ => false

/-- The nibbles of a frame put its bytes together again. -/
theorem nibbles_of_bytes (bytes : List Byte) (odd : List (BitVec 4)) (ho : odd.length ≤ 1) (k : Nat) (high low : BitVec 4)
    (hh : ((bytes.flatMap fun b => [b.extractLsb' 4 4, b.extractLsb' 0 4]) ++ odd)[2 * k]? = some high)
    (hl : ((bytes.flatMap fun b => [b.extractLsb' 4 4, b.extractLsb' 0 4]) ++ odd)[2 * k + 1]? = some low) :
    bytes[k]? = some (high ++ low) := by
  induction bytes generalizing k with
  | nil =>
    rw [List.getElem?_eq_none (by simp; omega)] at hl
    exact absurd hl (by simp)
  | cons b bs ih =>
    cases k with
    | zero =>
      simp only [List.flatMap_cons, List.cons_append, Nat.mul_zero, List.getElem?_cons_zero, Option.some.injEq,
        Nat.zero_add, List.getElem?_cons_succ] at hh hl
      subst hh hl
      simp only [List.getElem?_cons_zero, Option.some.injEq]
      exact (by decide +kernel : ∀ b : BitVec 8, b = (b.extractLsb' 4 4 ++ b.extractLsb' 0 4 : BitVec 8)) b
    | succ k => exact ih k (by simpa [Nat.mul_succ] using hh) (by simpa [Nat.mul_succ] using hl)

/-- A lane that found LFRM low is brought any frame with a nibble by its samples. -/
theorem brings_samples {s : State} {f : Frame} (row : Instr) (hw : s.lane.wire = .low)
    (hf : f.bytes ≠ [] ∨ f.oddSample = true) (hr : row = .dataFrame (samplesOf f) ∨ row = .trainingFrame (samplesOf f)) :
    ∃ w, s.brings row f w := by
  refine ⟨_, _, 0#4, samplesOf f, ?_, rfl, hr, hw, ?_, ?_, fun k high low => nibbles_of_bytes _ _ ?_ k high low, rfl⟩
  · rcases hf with h | h
    · cases hb : f.bytes with
      | nil => exact absurd hb h
      | cons b bs => simp
    · simp [h]
  all_goals cases f.oddSample <;> simp [List.length_flatMap, List.map_const'] <;> omega

/-- The command that `queued` puts at the head. -/
def headOf (k : CommandKind) (bytes : List Byte) : QueuedCommand :=
  { ticket := 5#4, kind := k, params := params bytes, mark := 0 }

/-- A host update record. -/
def hostUpdate : UpdateRecord := { type := .update, ignored := 0#2, region := 0#4, bin := 0#16, value := 0#32 }

theorem witness_StepRunsFrontCommand : State.reset.pending = [] := rfl

theorem witness_ExecKeepsTheQueue : exec .padRecord run = .next run := rfl

theorem witness_OutstandingStepsComeFirst :
    isReset .timebaseTick = false ∧ isOutstanding .timebaseTick = false
      ∧ ({ run with due := { Due.nothing with linger := true } } : State).power.held = false
      ∧ (after .pinReset run).power.held = true ∧ (framed .pad 0#16 run).lane.ownHead = true
      ∧ answers .padRecord (framed .pad 0#16 run) = true
      ∧ answers .reservedRecord (framed .reserved 0#16 run) = true
      ∧ (framed .mark 0#16 run).markDue = true ∧ answers .markerRegistration (framed .mark 0#16 run) = true
      ∧ ({ run with sweeps := [sweeping .closing] } : State).terminalDue = true
      ∧ answers .terminalRecord { run with sweeps := [sweeping .closing] } = true := by decide +kernel

theorem witness_SelectSamplesTheStatusByte : (at_ .retain).quiet ∧ (at_ .retain).host.tx = .idle := by decide

theorem witness_BadCrcDiscardsTheRequest :
    (selected .init).quiet ∧ (selected .init).host.tx = .opcode
      ∧ requestOf (.status 0xE9#8) = some (.status, [], 0xE9#8) ∧ crc8 [opcodeByte .status] ≠ 0xE9#8 := by decide

theorem witness_PowerStateRefusesRequests :
    (selected .init).receives (sealed_ (.regRead 0#8))
      ∧ (selected .quiescing).receives (sealed_ (.postUpdates [hostUpdate]))
      ∧ (selected .quiescing).receives (.wake 0x44#8)
      ∧ (selected .retain).receives (sealed_ (.regWrite 0#8 0#32))
      ∧ (selected .retain).receives (sealed_ (.postUpdates [hostUpdate]))
      ∧ (selected .retain).receives (sealed_ (.submit 0#8 0#8 0#96))
      ∧ (selected .retain).receives (sealed_ .softReset) := by decide +kernel

theorem witness_StatusReportsOccupancies : (selected .init).receives (.status 0xE8#8) := by decide +kernel

theorem witness_RegReadHasNoSideEffect :
    (selected .retain).receives (sealed_ (.regRead 0x51#8)) ∧ registerOf 0x51#8 = some .queueStatus
      ∧ (selected .run).receives (sealed_ (.regRead 0x52#8)) ∧ registerOf 0x52#8 = none
      ∧ (selected .run).receives (sealed_ (.regRead 0x14#8)) ∧ registerOf 0x14#8 = none := by decide +kernel

/-- The port selected in RUN with so many records in the Host Update FIFO. -/
def filled (n : Nat) : State :=
  { selected .run with hostFifo := List.replicate n { region := 0#4, bin := 0#16, value := 0#32 } }

/-- A decided command that commits something at its clean end. -/
def holdingDecision (c : Commit) : State := (at_ .quiescing).decided .status { code := .accept, body := [], commit := c }

/-- A later state that still holds an accepted decision, for the clauses on CLEAN_END. -/
theorem witness_clean_end :
    [Commit.post [{ region := 0#4, bin := 0#16, value := 0#32 }], .submit 1#4 .fence 0#96, .takeCompletion, .takeEvent,
        .takeReadout 8, .writeRegister .eventStatus 0#32].all (fun c => decide (holdingDecision c).quiet) = true := by
  decide +kernel

theorem witness_PostUpdatesAppendsOrRefuses :
    ((filled 12).receives (sealed_ (.postUpdates (List.replicate 4 hostUpdate))) ∧ (filled 12).hostFifo.length + 4 ≤ 16)
      ∧ ((filled 13).receives (sealed_ (.postUpdates (List.replicate 4 hostUpdate)))
        ∧ 16 < (filled 13).hostFifo.length + 4)
      ∧ (filled 0).receives (sealed_ (.postUpdates [hostUpdate, { hostUpdate with type := .pad }])) := by decide +kernel

/-- The port selected in QUIESCING with so many queued commands. -/
def loaded (n : Nat) : State := { selected .quiescing with commands := List.replicate n (headOf .fence []) }

theorem witness_SubmitQueuesTheCommand :
    ((loaded 7).receives (sealed_ (.submit 0xF5#8 0x31#8 0#96)) ∧ kindOfByte 0x31#8 = some .retain
        ∧ goodParams .retain 0#96 = true ∧ (loaded 7).writable)
      ∧ ((loaded 8).receives (sealed_ (.submit 0xF5#8 0x31#8 0#96)) ∧ 8 ≤ (loaded 8).commands.length)
      ∧ ((loaded 0).receives (sealed_ (.submit 0#8 0x32#8 0#96)) ∧ kindOfByte 0x32#8 = none)
      ∧ ((loaded 0).receives (sealed_ (.submit 0#8 0x30#8 (params [2#8])))
        ∧ kindOfByte 0x30#8 = some .fence ∧ goodParams .fence (params [2#8]) = false)
      ∧ ((loaded 0).receives (sealed_ (.submit 0#8 0x20#8 (params [15#8, 0#8, 0#8, 0#8, 0#8, 1#8, 1#8, 15#8])))
        ∧ goodParams .sweep (params [15#8, 0#8, 0#8, 0#8, 0#8, 1#8, 1#8, 15#8]) = true
        ∧ goodParams .sweep (params [15#8, 0#8, 0#8, 0#8, 0#8, 1#8, 1#8, 16#8]) = false)
      ∧ paramBytes (params [2#8]) = (List.range 12).map fun i => if i = 0 then 2#8 else 0#8 := by decide +kernel

/-- A readout record. -/
def readoutRecord : ReadoutRecord :=
  { seq := 0#8, tag := 0#4, poisoned := false, last := false, truncated := false, wide := false, bin := 0#16,
    value := 0#64 }

theorem witness_TakesDeliverAndRemove :
    (∃ s : State, s.receives (sealed_ .takeCompletion) ∧ s.completions = [plainCompletion 0#4 .ok])
      ∧ (selected .retain).receives (sealed_ .takeCompletion) ∧ (selected .retain).completions = []
      ∧ (∃ s : State, s.receives (sealed_ .takeEvent) ∧ s.eventLog = [run.event .laneSeq .lane none 0#16])
      ∧ (selected .retain).receives (sealed_ .takeEvent) ∧ (selected .retain).eventLog = []
      ∧ (∃ s : State, s.receives (sealed_ (.takeReadout 8#8)) ∧ s.readout = List.replicate 64 readoutRecord
        ∧ s.sweeps = [sweeping .stalled])
      ∧ ((selected .run).receives (sealed_ (.takeReadout 1#8)) ∧ (selected .run).readout = [])
      ∧ (selected .run).receives (sealed_ (.takeReadout 0#8)) ∧ (selected .run).receives (sealed_ (.takeReadout 9#8)) := by
  refine ⟨⟨{ selected .run with completions := [plainCompletion 0#4 .ok] }, ?_⟩, ?_, rfl,
    ⟨{ selected .run with eventLog := [run.event .laneSeq .lane none 0#16] }, ?_⟩, ?_, rfl,
    ⟨{ selected .run with readout := List.replicate 64 readoutRecord, sweeps := [sweeping .stalled] }, ?_⟩, ?_⟩
  all_goals decide +kernel

/-- The port armed, with so many events logged. -/
def armed (n : Nat) : State :=
  { selected .quiescing with
    host := { (selected .quiescing).host with armed := true }
    eventLog := List.replicate n (run.event .laneSeq .lane none 0#16) }

theorem witness_SecondSoftResetExecutes :
    ((selected .run).receives (sealed_ .softReset) ∧ (selected .run).writable ∧ (selected .run).host.armed = false)
      ∧ ((armed 7).receives (sealed_ .softReset) ∧ (armed 7).writable ∧ (armed 7).host.armed = true)
      ∧ ((armed 8).receives (sealed_ .softReset) ∧ 8 ≤ (armed 8).eventLog.length) := by decide +kernel

theorem witness_EarlyEndDiscardsTheTransaction :
    ((selected .run).quiet ∧ (selected .run).host.tx = .opcode)
      ∧ ({ run with host := { run.host with tx := .request .submit } } : State).quiet
      ∧ (run.decided .wake { code := .accept, body := [], commit := .wake }).quiet
      ∧ (run.decided .wake { code := .badCrc, body := [], commit := .nothing }).quiet := by decide

theorem witness_SinkAndShortLowPeriods :
    (∀ op, opcodeByte op ≠ 0x04#8) ∧ (0 < 5 ∧ 4 < (5#8).toNat) ∧ (0#8).toNat = 0
      ∧ ({ run with host := { run.host with tx := .sink } } : State).quiet ∧ (selected .run).quiet := by
  refine ⟨?_, by decide, by decide, by decide, by decide⟩
  intro op
  cases op <;> decide

theorem witness_ResponseIsSentWithItsCrc :
    (run.decided .status { code := .accept, body := [1#8], commit := .nothing }).host.tx
        = .response .status { code := .accept, body := [1#8], commit := .nothing }
      ∧ (selected .run).host.tx = .opcode ∧ run.host.tx = .idle
      ∧ ({ run.host with tx := .sink } : HostPort).tx = .sink
      ∧ ({ run.host with tx := .request .submit } : HostPort).tx = .request .submit
      ∧ requestOf (.regRead 0x51#8 0x80#8) = some (.regRead, [0x51#8], 0x80#8)
      ∧ ([0x10#8, 0x51#8, 0x80#8] : List Byte)[2]? = some 0x80#8
      ∧ (∃ register : Nat → Byte, register 0 = crc8 [] ^^^ 0x05#8
        ∧ (∀ k < 8, register (k + 1)
          = if (register k).getLsbD 7 then (register k <<< 1) ^^^ 0x07#8 else register k <<< 1)
        ∧ register 8 = 0xE8#8) :=
  ⟨rfl, rfl, rfl, rfl, rfl, by decide, rfl,
    fun k => [0xFA#8, 0xF3#8, 0xE1#8, 0xC5#8, 0x8D#8, 0x1D#8, 0x3A#8, 0x74#8, 0xE8#8].getD k 0#8, by decide⟩

/-- Section 11.3: fields of the status registers of a state with two entries, a queued command and a LOCKED lane. -/
theorem test_status_registers :
    readRegister { live (desc .u32 .addSat) run with
        entries := [entry 0#16 .addSat 1, { entry 1#16 .addSat 5 with isSealed := true }]
        hostParked := true, markers := { Markers.free with slot1 := some 0#16 } } .mergeStatus = 0x00600422#32
      ∧ readRegister { run with
          commands := [{ ticket := 0#4, kind := .fence, params := 0#96, mark := 1 }], sweeps := [sweeping .closing]
          hostFifo := [{ region := 0#4, bin := 0#16, value := 0#32 }] } .queueStatus = 0xC1010001#32
      ∧ readRegister { run with lane := { run.lane with state := .locked, expectedSeq := 0x2B#8, errors := 3#4 } } .laneStatus
        = 0x032B0083#32
      ∧ readRegister (run.setRegion 5#4 { Region.blank with desc := { desc .s64 .decayAdd with decayShift := 3#4 } })
          (.regionDescB 5#4) = 0x30030007#32
      ∧ readRegister (run.setRegion 5#4 { Region.blank with desc := { desc .s64 .decayAdd with base := 8#21 } })
          (.regionDescA 5#4) = 0x53000008#32 := by decide +kernel

/-- A consistent sweep of bins 1 to 2 of region 2 at bin 1, with an entry of that bin that opened after its start. -/
def pinning : State :=
  { live (desc .u32 .addSat) run with
    sweeps := [{ sweeping .running with isConsistent := true }]
    entries := [{ entry 1#16 .addSat 5 with post := true }] }

theorem witness_StatusRegistersShowTheirFields :
    State.reset.withinCapacity ∧ (∃ pinned : Entry → Bool, ∀ e, pinned e = true ↔ State.reset.pins e)
      ∧ pinning.withinCapacity ∧ pinning.pins { entry 1#16 .addSat 5 with post := true } :=
  ⟨by decide +kernel, ⟨fun _ => false, fun _ => ⟨nofun, fun h => by obtain ⟨-, _, ⟨⟨_, h⟩, -⟩, -⟩ := h; cases h⟩⟩,
    by decide +kernel, rfl, _, ⟨⟨[], rfl⟩, .inl rfl, rfl, rfl⟩, by decide, by decide, by decide⟩

theorem witness_RegisterWritesAreCheckedWhole :
    [(0x00#8, 0#32), (0x18#8, 0#32), (0x30#8, 0#32), (0x02#8, 0#32), (0x02#8, 4097#32), (0x03#8, 0x10011#32),
        (0x03#8, 8#32), (0x04#8, 0#32), (0x05#8, 65#32), (0x08#8, 0x081#32), (0x1E#8, 3#32), (0x02#8, 4096#32),
        (0x03#8, 0x10010#32), (0x05#8, 64#32), (0x2F#8, 0#32), (0x1E#8, 2#32)].all
      (fun p => decide ((selected .quiescing).receives (sealed_ (.regWrite p.1 p.2)))) = true
      ∧ (selected .quiescing).writable := by decide +kernel

theorem witness_ConfigurationWritesReplaceTheirFields :
    (selected .run).writable
      ∧ [(0x02#8, 4096#32), (0x02#8, 1#32), (0x03#8, 0x10010#32), (0x04#8, 63#32), (0x05#8, 64#32), (0x06#8, 0#32),
          (0x11#8, 0xFFFFFFFF#32)].all
        (fun p => decide ((selected .run).receives (sealed_ (.regWrite p.1 p.2)))) = true
      ∧ ((4096#32).extractLsb' 0 13).toNat = 4096 ∧ ((0x10010#32).extractLsb' 0 5).toNat = 16
      ∧ ((0x10010#32).extractLsb' 16 8).toNat = 1 ∧ ((63#32).extractLsb' 0 6).toNat = 63
      ∧ ((64#32).extractLsb' 0 7).toNat = 64 := by decide +kernel

theorem witness_LaneControlActsInOrder :
    (selected .run).writable
      ∧ (selected .run).receives (sealed_ (.laneEnable 0x081#32)) ∧ (0x081#32).extractLsb' 8 4 = 0#4
      ∧ (selected .run).receives (sealed_ (.laneEnable 0x483#32)) ∧ (0x483#32).extractLsb' 8 4 ≠ 0#4
      ∧ (selected .run).receives (sealed_ (.trimUp 0x482#32)) ∧ (selected .run).receives (sealed_ (.trimDown 0x482#32))
      ∧ (laned .locked (selected .run)).receives (sealed_ (.laneReset 0x480#32))
      ∧ (laned .locked (selected .run)).receives (sealed_ (.laneEnable 0x480#32))
      ∧ (laned .locked (selected .run)).laneControl.enable = true ∧ (0x480#32).getLsbD 0 = false := by decide +kernel

theorem witness_ClearingWritesClearTheirOwn :
    (selected .quiescing).writable ∧ (selected .quiescing).receives (sealed_ (.alertClear 0xFFF#32))
      ∧ (selected .quiescing).receives (sealed_ (.eventStatus 0#32))
      ∧ (selected .quiescing).receives (sealed_ (.statisticsCounterClear .refreshOverruns 1#32)) := by decide +kernel

theorem witness_RegionStatusAndEccWrites :
    (selected .run).writable ∧ (selected .run).receives (sealed_ (.regionStatus 15#4 0xF0#32))
      ∧ (selected .run).receives (sealed_ (.clearCount 0#4 0x1F0#32))
      ∧ (selected .run).receives (sealed_ (.eccInject 2#32)) ∧ (2#32).extractLsb' 0 2 ≠ 3#2
      ∧ (selected .run).receives (sealed_ (.eccInject 3#32)) ∧ (3#32).extractLsb' 0 2 = 3#2 := by decide +kernel

theorem witness_DispatchWaitsForItsConditions :
    run.quiet ∧ dispatchedKind .fence = some .fence ∧ (queued .fence [] run).dispatches .fence (headOf .fence []) []
      ∧ ∀ c rest, ¬ run.dispatches .fence c rest :=
  ⟨by decide, rfl, dispatches_idle (by decide) rfl, fun _ _ h => nomatch h.1⟩

/-- The parameter bytes of a DEFINE of region 2 with BASE and BINS − 1 and the rest 0. -/
def defines (base : BitVec 24) (bins : Half) : List Byte :=
  [2#8, base.extractLsb' 16 8, base.extractLsb' 8 8, base.extractLsb' 0 8] ++ halfBytes bins

theorem witness_DefineChecksAndStores :
    (∀ bytes s, s.regionController = .idle → s.binUnit = .idle → s.intake = [] → s.fence = none → s.retain = .none →
        (queued .define bytes s).dispatches .define (headOf .define bytes) [])
      ∧ (queued .define (defines 0#24 0#16) run).quiet ∧ (queued .define (defines 0#24 0#16) run).unparked
      ∧ ((live (desc .u32 .max) run).region 2#4).state = .live
      ∧ (rawDescriptorOf (params (defines 4#24 0#16))).base.toNat % 8 ≠ 0
      ∧ 2097151 < (rawDescriptorOf (params (defines 2097144#24 8#16))).base.toNat + 9 - 1
      ∧ ¬ 2097151 < (rawDescriptorOf (params (defines 2097144#24 7#16))).base.toNat + 8 - 1
      ∧ ((run.setRegion 15#4 { Region.blank with state := .defined, desc := desc .u32 .max }).region 15#4).state
        ≠ .empty ∧ (desc .u32 .max).span = 8 := by
  refine ⟨fun bytes s h1 h2 h3 h4 h5 => dispatches_idle ⟨rfl, rfl, rfl, h4, h5, h2, h3⟩ h1, ?_⟩
  decide +kernel

/-- Region 2 DEFINED. -/
def defined_ : State := run.setRegion 2#4 { Region.blank with state := .defined, desc := desc .u32 .max }

theorem witness_InitAdoptAndRetireAct :
    (queued .init [2#8] defined_).dispatches .init (headOf .init [2#8]) []
      ∧ (queued .adopt [2#8] defined_).dispatches .adopt (headOf .adopt [2#8]) []
      ∧ (queued .retire [2#8] defined_).dispatches .retire (headOf .retire [2#8]) []
      ∧ (defined_.region 2#4).state = .defined ∧ (run.region 2#4).state = .empty
      ∧ (queued .init [2#8] defined_).quiet ∧ (queued .init [2#8] defined_).unparked
      ∧ (∃ w ∈ [sweeping .running], w.region = (2#4 : RegionIx)) :=
  ⟨dispatches_idle (by decide +kernel) rfl, dispatches_idle (by decide +kernel) rfl,
    dispatches_idle (by decide +kernel) rfl, by decide +kernel⟩

/-- A completion with a parked record and a region command that waits. -/
def disturbed (op : ArrayOp) : State :=
  { busy (desc .u32 .max) op with
    hostParked := true
    hostFifo := [{ region := 2#4, bin := 1#16, value := 1#32 }]
    regionController := .awaiting (.adopt 1#4 2#4) }

/-- The same with nothing parked and no command waiting. -/
def calmed (s : State) : State := { s with hostParked := false, regionController := .idle }

/-- An operation on bin 1 of region 2 under MAX, with one entry withdrawn. -/
def maxing : CounterOp := operation (desc .u32 .max) .marker .marker [entry 1#16 .max 3]

theorem witness_ActionMomentsAndReoffers :
    ((queued .retire [2#8] (busy (desc .u32 .max) .refresh)).dispatches .retire (headOf .retire [2#8]) []
        ∧ (busy (desc .u32 .max) .refresh).array.op ≠ none)
      ∧ (queued .retire [2#8] (live (desc .u32 .max) run)).dispatches .retire (headOf .retire [2#8]) []
      ∧ (disturbed (.commit maxing)).completes .commitCompletion
      ∧ (disturbed (.binRead 1#4 maxing)).completes .binReadCompletion
      ∧ (disturbed (.binWrite 1#4 maxing 0#64)).completes .binWriteCompletion
      ∧ ({ disturbed (.sweepStep maxing) with sweeps := [sweeping .running] } : State).completes .sweepStepCompletion
      ∧ (disturbed (.initStep { maxing with withdrawn := [] })).completes .initStepCompletion
      ∧ (disturbed .refresh).completes .refreshCompletion
      ∧ (disturbed (.poisonFill 4095)).completes .poisonFillCompletion :=
  ⟨⟨dispatches_idle (by decide +kernel) rfl, nofun⟩, dispatches_idle (by decide +kernel) rfl, .inl ⟨rfl, _, rfl⟩,
    .inr (.inl ⟨rfl, _, _, rfl⟩), .inr (.inr (.inl ⟨rfl, _, _, _, rfl⟩)),
    .inr (.inr (.inr (.inl ⟨rfl, nofun, _, rfl⟩))), .inr (.inr (.inr (.inr (.inl ⟨rfl, _, rfl, rfl⟩)))),
    .inr (.inr (.inr (.inr (.inr (.inl ⟨rfl, rfl⟩))))), .inr (.inr (.inr (.inr (.inr (.inr ⟨rfl, _, rfl⟩)))))⟩

/-- The states of `witness_ActionMomentsAndReoffers` are quiet, and their rows answer with nothing parked or waiting. -/
theorem witness_completions_answer :
    [(Instr.commitCompletion, ArrayOp.commit maxing), (.binReadCompletion, .binRead 1#4 maxing),
        (.binWriteCompletion, .binWrite 1#4 maxing 0#64), (.initStepCompletion, .initStep { maxing with withdrawn := [] }),
        (.refreshCompletion, .refresh), (.poisonFillCompletion, .poisonFill 4095)].all
      (fun p => decide (disturbed p.2).quiet && answers p.1 (calmed (disturbed p.2))) = true
      ∧ answers .sweepStepCompletion
          (calmed { disturbed (.sweepStep maxing) with sweeps := [sweeping .running] }) = true := by decide +kernel

theorem witness_BinAndSweepCommandsAreTaken :
    (queued .readBin [2#8] run).dispatches .readBin (headOf .readBin [2#8]) []
      ∧ (queued .writeBin [2#8] run).dispatches .writeBin (headOf .writeBin [2#8]) []
      ∧ (queued .sweep [2#8, 0#8, 0#8, 0#8, 7#8] (live (desc .u32 .max) run)).dispatches .sweep
        (headOf .sweep [2#8, 0#8, 0#8, 0#8, 7#8]) []
      ∧ (queued .cancelSweep [4#8] { run with sweeps := [sweeping .running] }).dispatches .cancelSweep
        (headOf .cancelSweep [4#8]) []
      ∧ (queued .cancelSweep [4#8] { run with sweeps := [sweeping .running] }).quiet
      ∧ ((live (desc .u32 .max) run).region 2#4).desc.binsMinus1 = 7#16
      ∧ paramHalf (params [2#8, 0#8, 0#8, 0#8, 7#8]) 3 = 7#16 ∧ paramHalf (params [2#8, 0#8, 0#8, 0#8, 8#8]) 3 = 8#16 :=
  ⟨dispatches_idle (by decide) rfl, dispatches_idle (by decide) rfl, dispatches_idle (by decide +kernel) rfl,
    dispatches_idle (by decide) rfl, by decide +kernel⟩

theorem witness_BarriersActAtDispatch :
    (queued .fence [1#8] run).dispatches .fence (headOf .fence [1#8]) []
      ∧ (queued .retain [] run).dispatches .retain (headOf .retain []) [] ∧ (queued .retain [] run).quiet
      ∧ (∀ r, (run.region r).state ≠ .initializing)
      ∧ ((run.setRegion 2#4 { Region.blank with state := .initializing }).region 2#4).state = .initializing :=
  ⟨dispatches_idle (by decide) rfl, dispatches_idle (by decide) rfl, by decide, by decide +kernel, by decide +kernel⟩

/-- Region 2 LIVE for U32 ADD_SAT, and a host record of its bin at the head. -/
def offered (b : BinIx) (es : List Entry) : State :=
  { posted b 1#32 (live (desc .u32 .addSat) run) with entries := es }

theorem witness_RejectedUpdatesAreCounted :
    (offered 8#16 []).quiet ∧ (offered 8#16 []).headRecord .host = some { region := 2#4, bin := 8#16, value := 1#32 }
      ∧ (offered 8#16 []).isParked .host = false ∧ (offered 8#16 []).ready .lane = false
      ∧ ((offered 8#16 []).region 2#4).desc.binsMinus1 < (8#16 : BinIx)
      ∧ ((posted 0#16 1#32 run).region 2#4).state ≠ .live
      ∧ ({ desc .u32 .max with hostOk := false } : Descriptor).hostOk = false
      ∧ ((offered 8#16 []).depart .host).headRecord .host = none
      ∧ (State.depart { offered 8#16 [] with hostFifo := List.replicate 2 { region := 2#4, bin := 8#16, value := 0#32 } }
          .host).headRecord .host ≠ none
      ∧ (framed .update 1#16 run).quiet ∧ (framed .update 1#16 run).ready .host = false
      ∧ (framed .update 1#16 run).headRecord .lane = some { region := 2#4, bin := 1#16, value := 1#32 }
      ∧ ((framed .update 1#16 run).depart .lane).lane.ownHead = false := by decide +kernel

theorem witness_AdmittedUpdatesArePlaced :
    ((offered 7#16 [entry 7#16 .addSat 1]).quiet ∧ (offered 7#16 [entry 7#16 .addSat 1]).mergeOrdered
      ∧ (offered 7#16 []).headRecord .host = some { region := 2#4, bin := 7#16, value := 1#32 }
      ∧ (offered 7#16 []).isParked .host = false ∧ (offered 7#16 []).ready .lane = false
      ∧ ((offered 7#16 []).region 2#4).state = .live ∧ ((offered 7#16 []).region 2#4).desc.hostOk = true
      ∧ (7#16 : BinIx) ≤ ((offered 7#16 []).region 2#4).desc.binsMinus1
      ∧ (offered 7#16 (List.replicate 16 { entry 6#16 .addSat 1 with isSealed := true })).occupancy = 16
      ∧ (offered 7#16 [{ entry 7#16 .addSat 1 with merges := 254 }]).mergeOrdered
      ∧ (offered 7#16 [entry 7#16 .addSat (-1)]).mergeOrdered)
      ∧ (∀ x, ¬ (offered 7#16 []).sweptConsistently x 2#4)
      ∧ ∃ x, ({ offered 7#16 [] with sweeps := [{ sweeping .running with isConsistent := true }] }
          : State).sweptConsistently x 2#4 :=
  ⟨by decide +kernel, fun _ ⟨⟨_, h⟩, _⟩ => (nomatch h), _, ⟨[], rfl⟩, .inl rfl, rfl, rfl⟩

theorem witness_RoundsAndDepartures :
    run.quiet ∧ run.ready .lane = false ∧ run.ready .host = false
      ∧ (framed .update 1#16 (offered 1#16 [])).quiet ∧ (framed .update 1#16 (offered 1#16 [])).ready .lane = true
      ∧ (framed .update 1#16 (offered 1#16 [])).ready .host = true
      ∧ (framed .update 1#16 run).lane.state = .locked := by decide +kernel

theorem witness_LaneRecordsAndMessages :
    (framed .pad 0#16 run).power.held = false ∧ (framed .reserved 0#16 run).lane.head.isSome
      ∧ (framed .mark 7#16 run).lane.head
        = some (9#8, { type := .mark, ignored := 0#2, region := 2#4, bin := 7#16, value := 1#32 })
      ∧ (framed .mark 7#16 run).power.held = false ∧ (framed .mark 7#16 run).markers = Markers.free
      ∧ ({ framed .mark 7#16 run with
          markers := { Markers.free with slot0 := some 0#16, slot1 := some 1#16 } } : State).quiet
      ∧ ({ run with lane := { run.lane with returnQueue := [.ready 4#3] } } : State).quiet
      ∧ run.lane.lret = [] ∧ (0x94#8).toNat = 0x90 + (4#3).toNat := by decide +kernel

theorem witness_ArbiterGrantsInOrder :
    (run.quiet ∧ State.reset.quiet ∧ State.reset.power.fillRow = some 0) ∧ (∀ m, ¬ State.reset.wants m)
      ∧ ({ run with binUnit := .read 1#4 2#4 0#16 } : State).wants .binAccess
      ∧ ({ run with sweeps := [sweeping .running] } : State).wants .sweep
      ∧ ({ run with regionController := .filling 1#4 2#4 0 } : State).wants .init := by
  refine ⟨by decide, ?_, .inl ⟨rfl, .inl ⟨_, _, _, rfl⟩⟩, .inr (.inl ⟨rfl, _, _, rfl, rfl, by decide, by decide⟩),
    .inr (.inr (.inr ⟨rfl, _, _, _, rfl⟩))⟩
  rintro m (⟨-, ⟨_, _, _, h⟩ | ⟨_, _, _, _, h⟩⟩ | ⟨-, _, _, h, -⟩ | ⟨-, _, h, -⟩ | ⟨-, _, _, _, h⟩) <;> cases h

/-- Region 2 LIVE with an entry that is eligible. -/
def pressed : State :=
  { live (desc .u32 .addSat) run with entries := [entry 0#16 .addSat 1, { entry 1#16 .addSat 5 with isSealed := true }] }

/-- Region 2 LIVE at the top of the array, its last bin beyond it. -/
def outside : Descriptor := { desc .u32 .addSat with base := 2097144#21, binsMinus1 := 8#16 }

theorem witness_CommitAndStepGrants :
    (pressed.quiet ∧ pressed.nextGrant = some (.member .commit)
      ∧ counterLastWord (desc .u32 .addSat) 1#16 < 2097152 ∧ counterLastWord outside 7#16 = 2097151
      ∧ 2097152 ≤ counterLastWord outside 8#16
      ∧ ({ run with regionController := .filling 1#4 2#4 0 } : State).nextGrant = some (.member .init)
      ∧ ({ run with sweeps := [sweeping .running] } : State).nextGrant = some (.member .sweep))
      ∧ ¬ pressed.mayCommit (entry 0#16 .addSat 1)
      ∧ pressed.mayCommit { entry 1#16 .addSat 5 with isSealed := true } := by
  refine ⟨by decide +kernel, ?_, ?_, .inl rfl⟩
  · rintro ⟨-, h | h | h⟩
    · cases h
    · exact absurd h (by decide)
    · exact absurd h (by decide)
  · rintro ⟨h, -⟩
    cases h

/-- Region 2 LIVE, with a bin command of its unit waiting for the array. -/
def waiting (u : BinUnit) : State := { live (desc .u32 .addSat) run with binUnit := u }

theorem witness_BinOperationsTakeTheirBin :
    ((waiting (.read 1#4 2#4 7#16)).quiet ∧ (waiting (.read 1#4 2#4 7#16)).nextGrant = some (.member .binAccess)
      ∧ (waiting (.write 1#4 2#4 8#16 0#64)).nextGrant = some (.member .binAccess)
      ∧ ((waiting .idle).region 2#4).state = .live ∧ ((waiting .idle).region 2#4).desc.binsMinus1 < (8#16 : BinIx)
      ∧ (waiting (.read 1#4 3#4 0#16)).nextGrant = some (.member .binAccess)
      ∧ ({ waiting (.write 1#4 2#4 0#16 0#64) with
          sweeps := [{ sweeping .running with isConsistent := true }] } : State).nextGrant = some (.member .binAccess))
      ∧ (∃ x, ({ waiting (.write 1#4 2#4 0#16 0#64) with
          sweeps := [{ sweeping .running with isConsistent := true }] } : State).sweptConsistently x 2#4)
      ∧ pinning.pins { entry 1#16 .addSat 5 with post := true } ∧ ¬ pinning.pins (entry 1#16 .addSat 5) :=
  ⟨by decide +kernel, ⟨_, ⟨[], rfl⟩, .inl rfl, rfl, rfl⟩,
    ⟨rfl, _, ⟨⟨[], rfl⟩, .inl rfl, rfl, rfl⟩, by decide, by decide, by decide⟩, fun h => nomatch h.1⟩

/-- A COMMIT of a U32 counter in progress. -/
def committing : CounterOp := operation (desc .u32 .addSat) (.clean 3#32) .marker [entry 1#16 .addSat 5]

/-- A step of bin 2, the last, of a poisoned S64 counter. -/
def lastStep : CounterOp := { operation (desc .s64 .max) (.double 0#32) (.single 1#32) [] with bin := 2#16 }

/-- A step that took an armed injection at its grant, over a counter that is readable or not. -/
def injecting (low : Cell) : CounterOp :=
  { operation (desc .u32 .max) low .marker [entry 1#16 .max 3] with inject := .single }

/-- R152: the injection is spent by a SNAPSHOT step that writes counter data, and stays armed where it writes markers. -/
theorem test_injection_is_spent_by_data :
    [Cell.clean 1#32, .double 1#32].map (fun low => (after .sweepStepCompletion { busy (desc .u32 .max)
        (.sweepStep (injecting low)) with
        sweeps := [sweeping .running]
        array := { run.array with op := some (.sweepStep (injecting low)), ecc := .single } }).array.ecc)
      = [.none, .single] := by decide +kernel

/-- The state with that step in progress, and so many records in the Readout FIFO. -/
def stepping (drain : Bool) (n : Nat) : State :=
  { busy (desc .s64 .max) (.sweepStep lastStep) with
    sweeps := [{ sweeping .running with isDrain := drain }], readout := List.replicate n readoutRecord }

/-- A BIN_READ in progress. -/
def reading : State := busy (desc .u32 .addSat) (.binRead 1#4 committing)

theorem witness_ReadingOperationsWriteTheCounter :
    (busy (desc .u32 .addSat) (.commit committing)).quiet
      ∧ (busy (desc .u32 .addSat) (.commit committing)).wordsCanonical
      ∧ (busy (desc .u32 .addSat) (.commit committing)).completesReading .commitCompletion committing .commit
      ∧ reading.completesReading .binReadCompletion committing .binRead ∧ reading.quiet
      ∧ (stepping true 0).completesReading .sweepStepCompletion lastStep .drain
      ∧ (stepping false 63).completesReading .sweepStepCompletion lastStep .snapshot ∧ (stepping true 0).quiet :=
  ⟨by decide +kernel, by decide +kernel, .inl ⟨rfl, rfl, rfl⟩, .inr (.inl ⟨rfl, rfl, 1#4, rfl⟩), by decide +kernel,
    .inr (.inr ⟨rfl, rfl, _, _, rfl, rfl⟩), .inr (.inr ⟨rfl, rfl, _, _, rfl, rfl⟩), by decide +kernel⟩

theorem witness_ReadingOperationsReport :
    (busy (desc .u32 .addSat) (.commit committing)).undisturbed ∧ reading.undisturbed ∧ (stepping false 0).undisturbed
      ∧ (busy (desc .u32 .addSat) (.commit committing)).completesReading .commitCompletion committing .commit :=
  ⟨undisturbed_idle (by decide +kernel) rfl, undisturbed_idle (by decide +kernel) rfl,
    undisturbed_idle (by decide +kernel) rfl, .inl ⟨rfl, rfl, rfl⟩⟩

theorem witness_ReadingOperationsDeliver :
    reading.quiet ∧ reading.array.op = some (.binRead 1#4 committing) ∧ (stepping false 63).quiet
      ∧ (stepping false 63).array.op = some (.sweepStep lastStep) ∧ (stepping false 63).readout.length = 63
      ∧ (stepping false 63).sweeps = [sweeping .running] := by decide +kernel

theorem witness_WritingOperationsComplete :
    (busy (desc .u32 .max) (.binWrite 1#4 committing 9#64)).quiet
      ∧ (busy (desc .u32 .max) (.binWrite 1#4 committing 9#64)).undisturbed
      ∧ (busy (desc .u32 .max) (.binWrite 1#4 committing 9#64)).wordsCanonical
      ∧ (busy (desc .u32 .max) (.binWrite 1#4 committing 9#64)).array.op = some (.binWrite 1#4 committing 9#64)
      ∧ (∃ s : State, s.quiet ∧ s.undisturbed ∧ s.wordsCanonical ∧ s.array.op = some (.initStep committing)
        ∧ s.regionController = .filling 1#4 2#4 7 ∧ (s.region 2#4).desc.binsMinus1 = 7#16) :=
  ⟨by decide +kernel, undisturbed_idle (by decide +kernel) rfl, by decide +kernel, rfl,
    { busy (desc .u32 .addSat) (.initStep committing) with regionController := .filling 1#4 2#4 7 },
    by decide +kernel, ⟨by decide +kernel, fun _ h => nomatch h⟩, by decide +kernel, rfl, rfl, by decide +kernel⟩

theorem witness_RefreshAndFillComplete :
    (busy (desc .u32 .max) .refresh).quiet ∧ (∀ a, (busy (desc .u32 .max) .refresh).regionController ≠ .awaiting a)
      ∧ (busy (desc .u32 .max) (.poisonFill 4095)).array.op = some (.poisonFill 4095)
      ∧ (busy (desc .u32 .max) (.poisonFill 4094)).quiet :=
  ⟨by decide +kernel, (undisturbed_idle (by decide +kernel) rfl).2, rfl, by decide +kernel⟩

theorem witness_WordsBanksAndAddresses :
    (2097151 < 2097152) ∧ counterLastWord { desc .u64 .max with base := 2097144#21 } 3#16 = 2097151 ∧ rowOf 2097151 = 4095#12 ∧ Memory.wf [(0, .clean 1#32), (2097151, .double 2#32)] = true := by
  decide

theorem witness_SweepsStartAndClose :
    run.power.held = false
      ∧ ({ run with sweeps := [sweeping .queued] } : State).sweeps = [sweeping .queued]
      ∧ ({ run with sweeps := [sweeping .closing], readout := List.replicate 63 readoutRecord } : State).terminalDue = true
      ∧ ({ run with sweeps := [sweeping .closing], readout := List.replicate 64 readoutRecord } : State).terminalDue = false
      ∧ ({ busy (desc .s64 .max) (.sweepStep lastStep) with sweeps := [sweeping .closing] } : State).terminalDue = false
      ∧ ({ run with sweeps := [sweeping .running] } : State).quiet := by decide

theorem witness_CompletionsPostInOrder :
    (loaded 0).quiet
      ∧ ({ run with completions := List.replicate 8 (plainCompletion 0#4 .ok) } : State).quiet
      ∧ ({ run with completions := List.replicate 7 (plainCompletion 0#4 .ok), fence := some 3#4 } : State).quiet
      ∧ ({ run with markers := { Markers.free with slot0 := some 1#16 } } : State).quiet
      ∧ ({ run with markers := { Markers.free with slot1 := some 1#16 } } : State).quiet
      ∧ ({ run with binUnit := .posting (plainCompletion 1#4 .ok) } : State).quiet
      ∧ ({ run with regionController := .posting (plainCompletion 1#4 .ok) true } : State).quiet
      ∧ ({ run with sweeps := [sweeping (.posting .aborted)] } : State).quiet
      ∧ ({ run with intake := [plainCompletion 1#4 .notFound] } : State).quiet
      ∧ ({ run with retain := .refused 1#4 } : State).quiet := by decide +kernel

/-- Frames held in the Lane Receive Buffer of a LOCKED lane. -/
def holding (n : Nat) (s : State) : State :=
  { laned .locked s with
    lane := { (laned .locked s).lane with buffer := List.replicate n { seq := 0#8, records := [hostUpdate] } } }

/-- A DATA frame of one record, and one whose LENGTH does not agree with its COUNT. -/
def oneRecord (b0 : Byte) : Frame := frame [b0, 0x2A#8, 0x43#8, 0x04#8, 0xB4#8, 0x00#8, 0x00#8, 0x00#8, 0x25#8]

theorem witness_LockedFramesAreAccepted :
    ((holding 4 run).quiet ∧ (holding 4 run).lane.state = .locked ∧ 4 ≤ (holding 4 run).lane.buffer.length
      ∧ (holding 3 run).quiet ∧ (holding 3 run).lane.buffer.length < 4
      ∧ (oneRecord 0x11#8).bytes[0]? = some 0x11#8 ∧ (oneRecord 0x11#8).bytes.length = 4 + 7 * 1
      ∧ (oneRecord 0x11#8).bytes.drop 9 = halfBytes (crc16 ((oneRecord 0x11#8).bytes.take 9))
      ∧ (frame [0x20#8, 0x00#8]).bytes.drop 2 = halfBytes (crc16 ((frame [0x20#8, 0x00#8]).bytes.take 2))
      ∧ (frame [0x20#8, 0x00#8]).bytes.length = 4)
      ∧ (∃ register : Nat → Half, register 0 = crc16 [] ^^^ (0x31#8 ++ 0#8)
        ∧ ∀ k < 8, register (k + 1)
          = if (register k).getLsbD 15 then (register k <<< 1) ^^^ 0x1021#16 else register k <<< 1)
      ∧ (∀ n, ∃ w, (holding n run).brings (.dataFrame (samplesOf (oneRecord 0x11#8))) (oneRecord 0x11#8) w)
      ∧ ∃ w, (holding 3 run).brings (.trainingFrame (samplesOf (frame [0x20#8, 0x00#8]))) (frame [0x20#8, 0x00#8]) w :=
  ⟨by decide +kernel,
    ⟨fun k => [0xCEFF#16, 0x8DDF#16, 0x0B9F#16, 0x173E#16, 0x2E7C#16, 0x5CF8#16, 0xB9F0#16, 0x63C1#16, 0xC782#16].getD k 0,
      by decide⟩,
    fun _ => brings_samples _ rfl (.inl nofun) (.inl rfl), brings_samples _ rfl (.inl nofun) (.inr rfl)⟩

theorem witness_BadFramesAreDropped :
    ((holding 3 run).quiet ∧ (holding 3 run).lane.state = .locked ∧ (holding 3 run).lane.buffer.length < 4
      ∧ (oneRecord 0x11#8).bytes.dropLast.drop 8 ≠ halfBytes (crc16 ((oneRecord 0x11#8).bytes.dropLast.take 8))
      ∧ ((0x31#8).extractLsb' 4 4 ≠ 1#4 ∧ (0x31#8).extractLsb' 4 4 ≠ 2#4)
      ∧ (oneRecord 0x12#8).bytes.length ≠ 4 + 7 * 2
      ∧ (oneRecord 0x12#8).bytes.drop 9 = halfBytes (crc16 ((oneRecord 0x12#8).bytes.take 9))
      ∧ (3#4).toNat = Nat.min ((2#4).toNat + 1) 15 ∧ (4#4 : BitVec 4) ≤ 4#4 ∧ (3#4 : BitVec 4) < 4#4)
      ∧ (∃ w, (holding 3 run).brings (.dataFrame (samplesOf { bytes := [], oddSample := true }))
          { bytes := [], oddSample := true } w)
      ∧ ∃ w, (holding 3 run).brings (.dataFrame (samplesOf (oneRecord 0x12#8))) (oneRecord 0x12#8) w :=
  ⟨by decide +kernel, brings_samples _ rfl (.inr rfl) (.inl rfl), brings_samples _ rfl (.inl nofun) (.inl rfl)⟩

theorem witness_FramesOutsideLockedTrain :
    (run.quiet ∧ run.lane.state = .off ∧ (laned .fault run).quiet ∧ (laned .seek run).quiet ∧ (laned .train run).quiet
      ∧ (laned .train run).lane.training.dwell + 1 < 16
      ∧ trainingFrame.bytes.length = 20
      ∧ trainingFrame.bytes.drop 18 = halfBytes (crc16 (trainingFrame.bytes.take 18))
      ∧ (oneRecord 0x11#8).bytes.head?.map (fun b => b.extractLsb' 4 4) = some 1#4
      ∧ (laned .seek run).lane.wire = .low ∧ run.lane.wire = .high
      ∧ answers (.dataFrame [{ lfrm := true, ld := 1#4 }]) (laned .seek run) = true)
      ∧ ∀ l, (∃ w, (laned l run).brings (.dataFrame (samplesOf trainingFrame)) trainingFrame w)
        ∧ ∃ w, (laned l run).brings (.trainingFrame (samplesOf (oneRecord 0x11#8))) (oneRecord 0x11#8) w :=
  ⟨by decide +kernel, fun _ => ⟨brings_samples _ rfl (.inl nofun) (.inl rfl), brings_samples _ rfl (.inl nofun) (.inr rfl)⟩⟩

theorem witness_TrainingEndsAtItsLastFrame :
    ((lastFrame true 15#4 run).quiet ∧ (lastFrame true 15#4 run).lane.state = .train
      ∧ (lastFrame true 15#4 run).lane.training.dwell = 15 ∧ frameKind trainingFrame = some 2#4
      ∧ frameMatches trainingFrame = true ∧ frameMatches { bytes := [], oddSample := true } = false
      ∧ selectTrim 0x8100#16 = some 8#4 ∧ (lastFrame false 0#4 (at_ .quiescing)).quiet
      ∧ (lastFrame true 14#4 run).lane.training.trim ≠ 15#4)
      ∧ ∀ auto trim, ∃ w, (lastFrame auto trim run).brings (.trainingFrame (samplesOf trainingFrame)) trainingFrame w :=
  ⟨by decide +kernel, fun _ _ => brings_samples _ rfl (.inl nofun) (.inr rfl)⟩

theorem witness_TrainingSelectsTheMiddleTrim :
    (0x8000#16 : Half) ≠ 0#16 ∧ exec (.trainingFrame [{ lfrm := true, ld := 2#4 }]) run = .next run := ⟨by decide, rfl⟩

theorem witness_TicksCountEveryTimer :
    run.quiet ∧ run.power.state ≠ .retain ∧ (at_ .retain).quiet ∧ (at_ .retain).power.state = .retain
      ∧ (framed .update 1#16 { run with laneControl := { run.laneControl with holdLimit := 1#16 } }).quiet
      ∧ (at_ .init).power.fillObligation = false ∧ (at_ .init).power.fillRow = none := by decide +kernel

theorem witness_OutstandingStepsHaveTheirEffects :
    ({ run with due := { stall := some .mark, linger := true, refresh := true, seekRepeat := true
                         trainTimeout := true } } : State).power.held = false
      ∧ ({ run with due := { Due.nothing with refresh := true } } : State).due.stall = none
      ∧ ({ run with refreshTimer := { run.refreshTimer with debt := 6 } } : State).refreshTimer.debt = 6
      ∧ (after .laneStall run) = run
      ∧ ({ run with eventLog := [run.event .laneSeq .lane none 0#16], moment := 1 } : State).eventLog
        = [] ++ [run.event .laneSeq .lane none 0#16]
      ∧ eventByte .laneFormat < eventByte .laneSeq := by decide +kernel

theorem witness_ResetsGiveTheResetTable :
    (after .pinReset run).power.held = true ∧ run.power.held = false ∧ run.power.fillObligation = false := by decide +kernel

theorem witness_RetainIsEnteredAndLeft :
    ({ at_ .quiescing with retain := .quiescing 5#4 } : State).quiet
      ∧ ({ at_ .quiescing with retain := .quiescing 5#4 } : State).nextProducer = none
      ∧ (selected .retain).receives (.wake 0x44#8) ∧ (selected .run).receives (.wake 0x44#8) := by decide +kernel

theorem witness_OperatorsStayInTheFormat :
    ((0 : Int) ≤ 4294967295 ∧ (4294967295 : Int) ≤ 4294967295)
      ∧ applyOperator .decayAdd { desc .u64 .decayAdd with decayShift := 15#4 } 18446744073709551615 (-1)
        = { value := 18446181123756130303, sat := false, wrap := false } := by decide +kernel

theorem witness_MergedEqualsSeparateApplications :
    Operator.addSat ≠ .decayAdd ∧ mergeAllowed .addSat 3 10 = true ∧ ([3, 10] : List Int).getLast? = some 10
      ∧ Format.u32.minimum ≤ 4294967290 ∧ (4294967290 : Int) ≤ Format.u32.maximum := by decide

theorem witness_invariants :
    State.reset.wordsCanonical ∧ State.reset.withinCapacity ∧ State.reset.mergeOrdered ∧ State.reset.entriesInRange
      ∧ State.reset.placed ∧ pressed.mergeOrdered ∧ pressed.entriesInRange ∧ pressed.withinCapacity := by
  refine ⟨?_, ?_, ?_, ?_, ?_, ?_, ?_, ?_⟩ <;> decide +kernel

theorem witness_step_answers_next :
    step { pressed with pending := [.padRecord] } = .next pressed ∧ pressed.placed := ⟨rfl, by decide +kernel⟩

end Sys2Proof.Tests
end

section
/-! SUPPORT. The frame of a step: each outstanding step and what it leaves, that a settled state has none outstanding,
and that a step taken by its own row is one that settling would have taken (R2, R57, R122, R130, R136, R165). -/

namespace Sys2Proof.Machine

/-! ### The outstanding steps, one by one -/

@[simp] theorem State.stallReport_frame (s : State) :
    s.stallReport.lane = s.lane ∧ s.stallReport.markers = s.markers ∧ s.stallReport.power = s.power
      ∧ s.stallReport.due = { s.due with stall := none } := by
  unfold State.stallReport
  split
  · rename_i h
    simp [← h]
  · simp

@[simp] theorem State.lingerTick_frame (s : State) :
    s.lingerTick.lane = s.lane ∧ s.lingerTick.markers = s.markers ∧ s.lingerTick.power = s.power
      ∧ s.lingerTick.due = { s.due with linger := false } := by
  unfold State.lingerTick
  split
  · simp
  · rename_i h
    simp [← Bool.eq_false_of_not_eq_true h]

@[simp] theorem State.refreshDue_frame (s : State) :
    s.refreshDue.lane = s.lane ∧ s.refreshDue.markers = s.markers ∧ s.refreshDue.power = s.power
      ∧ s.refreshDue.due = { s.due with refresh := false } := by
  unfold State.refreshDue
  split
  · dsimp only
    split <;> simp
  · rename_i h
    simp [← Bool.eq_false_of_not_eq_true h]

/-- A return message is no change of the buffer (R52). -/
@[simp] theorem Lane.send_buffer (l : Lane) (m : LaneMessage) : (l.send m).buffer = l.buffer := by
  unfold Lane.send
  split <;> rfl

@[simp] theorem State.seekRepeat_frame (s : State) :
    s.seekRepeat.lane.buffer = s.lane.buffer ∧ s.seekRepeat.markers = s.markers ∧ s.seekRepeat.power = s.power
      ∧ s.seekRepeat.due = { s.due with seekRepeat := false } := by
  unfold State.seekRepeat
  split
  · simp
  · rename_i h
    simp [← Bool.eq_false_of_not_eq_true h]

@[simp] theorem State.trainTimeout_frame (s : State) :
    s.trainTimeout.lane.buffer = s.lane.buffer ∧ s.trainTimeout.markers = s.markers ∧ s.trainTimeout.power = s.power
      ∧ s.trainTimeout.due = { s.due with trainTimeout := false } := by
  unfold State.trainTimeout
  split
  · simp [Lane.enterSeek]
  · rename_i h
    simp [← Bool.eq_false_of_not_eq_true h]

@[simp] theorem State.endOfInitialisation_frame (s : State) :
    s.endOfInitialisation.lane = s.lane ∧ s.endOfInitialisation.markers = s.markers
      ∧ s.endOfInitialisation.power.held = s.power.held ∧ s.endOfInitialisation.power.initEnd = none := by
  unfold State.endOfInitialisation
  split
  · rename_i h
    simp [h]
  · simp

@[simp] theorem State.sweepStart_frame (s : State) :
    s.sweepStart.lane = s.lane ∧ s.sweepStart.markers = s.markers ∧ s.sweepStart.power = s.power
      ∧ s.sweepStart.due = s.due := by
  unfold State.sweepStart
  split
  · simp
  · split <;> simp

@[simp] theorem State.terminalRecord_frame (s : State) :
    s.terminalRecord.lane = s.lane ∧ s.terminalRecord.markers = s.markers ∧ s.terminalRecord.power = s.power
      ∧ s.terminalRecord.due = s.due := by
  unfold State.terminalRecord
  split
  · simp
  · split <;> simp

/-! ### The sweep queue after its two outstanding steps -/

theorem State.sweepStart_of_not_due (s : State) (h : s.startDue = false) : s.sweepStart = s := by
  unfold State.sweepStart
  split
  · rfl
  · rename_i w rest hw
    simp_all [State.startDue]

/-- A sweep that has started is not QUEUED (R130). -/
theorem State.sweepStart_startDue (s : State) : s.sweepStart.startDue = false := by
  cases h : s.startDue
  · rw [s.sweepStart_of_not_due h, h]
  · unfold State.startDue at h
    split at h
    · cases h
    · rename_i w rest hw
      simp only [State.sweepStart, hw, of_decide_eq_true h, if_true, State.startDue]
      split <;> rfl

/-- The terminal record leaves a sweep that is POSTING (R136). -/
theorem State.terminalRecord_of_due (s : State) (h : s.terminalDue = true) :
    ∃ w rest, s.sweeps = w :: rest ∧ w.state = .closing
      ∧ s.terminalRecord
        = { s.placeRecord (terminalRecordOf w) with sweeps := { w with state := .posting .aborted } :: rest } := by
  cases hw : s.sweeps with
  | nil => simp [State.terminalDue, hw] at h
  | cons w rest =>
    have hc : w.state = .closing := by
      simp only [State.terminalDue, hw, Bool.and_eq_true, decide_eq_true_eq] at h
      exact h.1.1
    exact ⟨w, rest, rfl, hc, by simp [State.terminalRecord, hw, h]⟩

theorem State.terminalRecord_terminalDue (s : State) : s.terminalRecord.terminalDue = false := by
  cases h : s.terminalDue
  · rw [s.terminalRecord_of_not_due h, h]
  · obtain ⟨w, rest, -, -, he⟩ := s.terminalRecord_of_due h
    rw [he]
    rfl

theorem State.terminalRecord_startDue (s : State) (h : s.startDue = false) : s.terminalRecord.startDue = false := by
  cases ht : s.terminalDue
  · rwa [s.terminalRecord_of_not_due ht]
  · obtain ⟨w, rest, -, -, he⟩ := s.terminalRecord_of_due ht
    rw [he]
    rfl

/-! ### The reset signal under the head records -/

@[simp] theorem State.credit_power (s : State) : s.credit.power = s.power := by
  unfold State.credit
  split <;> rfl

@[simp] theorem State.laneHandled_power (s : State) : s.laneHandled.power = s.power := by
  unfold State.laneHandled
  dsimp only
  split <;> simp

/-- All that PAD_RECORD can do: the PAD at the head is handled, or nothing happens (R57). -/
theorem State.padRecord_cases (s : State) :
    (∃ q r, s.lane.head = some (q, r) ∧ r.type = .pad ∧ s.padRecord = s.laneHandled) ∨ s.padRecord = s := by
  unfold State.padRecord
  split
  · rename_i q r hh
    split
    · exact .inl ⟨q, r, hh, ‹_›, rfl⟩
    · exact .inr rfl
  · exact .inr rfl

/-- All that RESERVED_RECORD can do: the reserved TYPE at the head is handled and reported, or nothing happens (R57). -/
theorem State.reservedRecord_cases (s : State) :
    (∃ q r, s.lane.head = some (q, r) ∧ r.type = .reserved
        ∧ s.reservedRecord
          = ((s.laneHandled.count .formatErrors).log (s.event .laneFormat .lane none (4#8 ++ q))).raise .laneError)
      ∨ s.reservedRecord = s := by
  unfold State.reservedRecord
  split
  · rename_i q r hh
    split
    · exact .inl ⟨q, r, hh, ‹_›, rfl⟩
    · exact .inr rfl
  · exact .inr rfl

@[simp] theorem State.padRecord_power (s : State) : s.padRecord.power = s.power := by
  rcases s.padRecord_cases with ⟨q, r, -, -, he⟩ | he <;> simp [he]

@[simp] theorem State.reservedRecord_power (s : State) : s.reservedRecord.power = s.power := by
  rcases s.reservedRecord_cases with ⟨q, r, -, -, he⟩ | he <;> simp [he]

@[simp] theorem State.markRecord_power (s : State) : s.markRecord.power = s.power := by
  rcases s.markRecord_cases with ⟨q, r, slot, -, -, -, -, he⟩ | ⟨-, he⟩ <;> rw [he]
  simp [State.registerMarker]

@[simp] theorem State.takeHeads_power (s : State) : s.takeHeads.power = s.power := by
  have heads : ∀ (n : Nat) (t : State), (t.headRecords n).power = t.power := by
    intro n
    induction n with
    | zero => intro t; rfl
    | succ n ih =>
      intro t
      unfold State.headRecords
      split
      · simp [ih]
      · rfl
  exact heads _ s

/-! ### A settled state -/

/-- Whether a head record is taken at once rests on the buffer and the markers alone (R57, R122). -/
theorem State.noHead_congr (s t : State) (hb : t.lane.buffer = s.lane.buffer) (hm : t.markers = s.markers) :
    t.lane.ownHead = s.lane.ownHead ∧ t.markDue = s.markDue := by
  have hh : t.lane.head = s.lane.head := by simp only [Lane.head, hb]
  simp only [Lane.ownHead, State.markDue, hh, hm, and_self]

@[simp] theorem State.settle_held (s : State) : s.settle.power.held = s.power.held := by simp [State.settle]

/-- Settling leaves nothing outstanding, and ends the moment. -/
theorem State.settle_settled (s : State) : s.settle.settled = true := by
  obtain ⟨ho, hm⟩ := State.noHead_congr s.takeHeads s.settle (by simp [State.settle]) (by simp [State.settle])
  obtain ⟨hto, htm⟩ := s.takeHeads_spec
  rw [State.settled_iff]
  refine ⟨by simp [State.settle, Due.nothing], by simp [State.settle], ?_, ?_, by rw [ho, hto], by rw [hm, htm], rfl⟩
  · exact State.terminalRecord_startDue _ (State.sweepStart_startDue _)
  · exact State.terminalRecord_terminalDue _

theorem State.settle_quiet (s : State) (h : s.power.held = false) : s.settle.quiet :=
  ⟨by simp [h], s.settle_settled⟩

/-! ### The form of every row -/

/-- A row of an outstanding step is one such step, taken unless a reset is in force. -/
theorem exec_eq_takeOutstanding (c : Instr) (h : isOutstanding c = true) :
    ∃ f, ∀ s, exec c s = takeOutstanding s f := by
  cases c with
  | lingerTick | refreshDue | seekRetrainRepeat | trainTimeout | laneStall | sweepStart | endOfInitialisation
  | padRecord | reservedRecord | markerRegistration | terminalRecord => exact ⟨_, fun _ => rfl⟩
  | _ => cases h

/-- A request, a dispatch and a grant have their meanings on the settled state. -/
theorem request_eq_takeStep (op : Opcode) (body : List Byte) (crc : Byte) (own : State → Decision) :
    ∃ f, ∀ s, request op body crc own s = takeStep s f := ⟨_, fun _ => rfl⟩

theorem registerWrite_eq_takeStep (index : Byte) (value : Word) (crc : Byte) :
    ∃ f, ∀ s, registerWrite index value crc s = takeStep s f := request_eq_takeStep _ _ _ _

theorem dispatch_eq_takeStep (kind : CommandKind) (take : QueuedCommand → State → State) :
    ∃ f, ∀ s, dispatch kind take s = takeStep s f := ⟨_, fun _ => rfl⟩

theorem grantTo_eq_takeStep (m : Member) (g : State → State → Out) :
    ∃ f, ∀ s, grantTo m g s = takeStep s f := ⟨_, fun _ => rfl⟩

/-- Every other row but the resets has a meaning on the settled state. -/
theorem exec_eq_takeStep (c : Instr) (hr : isReset c = false) (ho : isOutstanding c = false) :
    ∃ f, ∀ s, exec c s = takeStep s f := by
  cases c with
  | powerOnReset | pinReset | resetRelease => cases hr
  | lingerTick | refreshDue | seekRetrainRepeat | trainTimeout | laneStall | sweepStart | endOfInitialisation
  | padRecord | reservedRecord | markerRegistration | terminalRecord => cases ho
  | status | regRead | submit | takeCompletion | takeReadout | takeEvent | wake | softReset =>
    dsimp only [exec]; exact request_eq_takeStep _ _ _ _
  | regWrite | trimUp | trimDown | laneReset | laneEnable | alertClear | eventStatus | statisticsCounterClear
  | regionStatus | clearCount | eccInject => exact registerWrite_eq_takeStep _ _ _
  | define | init | adopt | retire | readBin | writeBin | sweep | cancelSweep | fence | retain =>
    dsimp only [exec]; exact dispatch_eq_takeStep _ _
  | commit | binRead | binWrite | sweepStep | initStep => dsimp only [exec]; exact grantTo_eq_takeStep _ _
  | postUpdates records crc =>
    by_cases hn : 1 ≤ records.length ∧ records.length ≤ 4
    · obtain ⟨f, hf⟩ := request_eq_takeStep .postUpdates (postBody records) crc fun s => postDecision s records
      exact ⟨f, fun s => (if_pos hn).trans (hf s)⟩
    · exact ⟨_, fun _ => if_neg hn⟩
  | _ => dsimp only [exec]; exact ⟨_, fun _ => rfl⟩

theorem exec_of_held (c : Instr) (s : State) (hr : isReset c = false) (h : s.power.held = true) :
    exec c s = .next s := by
  cases ho : isOutstanding c
  · obtain ⟨f, hf⟩ := exec_eq_takeStep c hr ho
    rw [hf, takeStep_of_held s f h]
  · obtain ⟨f, hf⟩ := exec_eq_takeOutstanding c ho
    rw [hf, takeOutstanding_of_held s f h]

theorem exec_eq_exec_settle (c : Instr) (s : State) (hr : isReset c = false) (ho : isOutstanding c = false)
    (h : s.power.held = false) : exec c s = exec c s.settle := by
  obtain ⟨f, hf⟩ := exec_eq_takeStep c hr ho
  rw [hf, hf, takeStep_of_not_held s f h, takeStep_of_quiet _ f (s.settle_quiet h)]

/-! ### A head record taken by its own row -/

theorem State.takeHeads_markRecord (s : State) : s.markRecord.takeHeads = s.takeHeads := by
  rcases s.markRecord_cases with ⟨q, r, slot, hh, ht, -, hd, -⟩ | ⟨-, he⟩
  · have hp : s.padRecord = s := by simp [State.padRecord, hh, ht]
    have hv : s.reservedRecord = s := by simp [State.reservedRecord, hh, ht]
    rw [s.takeHeads_step (by simp [hd]), hp, hv]
  · rw [he]

theorem State.takeHeads_reservedRecord (s : State) : s.reservedRecord.takeHeads = s.takeHeads := by
  rcases s.reservedRecord_cases with ⟨q, r, hh, ht, -⟩ | he
  · have hp : s.padRecord = s := by simp [State.padRecord, hh, ht]
    rw [s.takeHeads_step (by simp [Lane.ownHead, hh, ht]), hp, State.takeHeads_markRecord]
  · rw [he]

theorem State.takeHeads_padRecord (s : State) : s.padRecord.takeHeads = s.takeHeads := by
  rcases s.padRecord_cases with ⟨q, r, hh, ht, -⟩ | he
  · rw [s.takeHeads_step (by simp [Lane.ownHead, hh, ht]), State.takeHeads_markRecord, State.takeHeads_reservedRecord]
  · rw [he]

/-- A state with the same heads taken settles to the same state. -/
theorem State.settle_of_takeHeads (s t : State) (h : t.takeHeads = s.takeHeads) : t.settle = s.settle := by
  simp only [State.settle, h]

/-! ### A terminal record taken by its own row -/

/-- The sweeps and the Readout FIFO replaced, and all else kept. -/
def State.withReadout (s : State) (sweeps : List Sweep) (readout : List ReadoutRecord) (seq : Byte) : State :=
  { s with sweeps, readout, readoutSeq := seq }

/-- The step neither reads nor changes the sweeps and the Readout FIFO, nor starts or ends a step of a sweep. -/
def BlindToReadout (g : State → State) : Prop :=
  ∀ s : State, (g s).stepInProgress = s.stepInProgress
    ∧ ∀ sweeps readout seq, g (s.withReadout sweeps readout seq) = (g s).withReadout sweeps readout seq

theorem blindToReadout_id : BlindToReadout fun s => s := fun _ => ⟨rfl, fun _ _ _ => rfl⟩

theorem BlindToReadout.comp {f g : State → State} (hf : BlindToReadout f) (hg : BlindToReadout g) :
    BlindToReadout fun s => g (f s) := fun s =>
  ⟨((hg _).1).trans (hf s).1, fun w r q => (congrArg g ((hf s).2 w r q)).trans ((hg _).2 w r q)⟩

/-- A step is blind that does what some blind step does on all states that differ from one another only in the sweeps
and the Readout FIFO. -/
theorem blindToReadout_of_cases {g : State → State}
    (h : ∀ s : State, ∃ f, BlindToReadout f ∧ ∀ w r q, g (s.withReadout w r q) = f (s.withReadout w r q)) :
    BlindToReadout g := by
  intro s
  obtain ⟨f, hf, he⟩ := h s
  have hs : g s = f s := he s.sweeps s.readout s.readoutSeq
  exact ⟨by rw [hs, (hf s).1], fun w r q => by rw [he, hs, (hf s).2]⟩

/-- What a blind step leaves of the sweeps and the Readout FIFO: all of it. -/
theorem BlindToReadout.frame {g : State → State} (hg : BlindToReadout g) (s : State) :
    (g s).sweeps = s.sweeps ∧ (g s).readout = s.readout ∧ (g s).readoutSeq = s.readoutSeq
      ∧ (g s).terminalDue = s.terminalDue := by
  have own : g s = (g s).withReadout s.sweeps s.readout s.readoutSeq := (hg s).2 s.sweeps s.readout s.readoutSeq
  have hw : (g s).sweeps = s.sweeps := by rw [own]; rfl
  have hr : (g s).readout = s.readout := by rw [own]; rfl
  have hq : (g s).readoutSeq = s.readoutSeq := by rw [own]; rfl
  exact ⟨hw, hr, hq, by simp only [State.terminalDue, hw, hr, (hg s).1]⟩

/-- A blind step and the terminal record of a cancelled sweep come in either order (R136). -/
theorem BlindToReadout.terminalRecord {g : State → State} (hg : BlindToReadout g) (s : State) :
    g s.terminalRecord = (g s).terminalRecord := by
  obtain ⟨hw, hr, hq, hd⟩ := hg.frame s
  cases h : s.terminalDue
  · rw [s.terminalRecord_of_not_due h, (g s).terminalRecord_of_not_due (hd.trans h)]
  · obtain ⟨w, rest, hs, -, he⟩ := s.terminalRecord_of_due h
    obtain ⟨w', rest', hs', -, he'⟩ := (g s).terminalRecord_of_due (hd.trans h)
    obtain ⟨rfl, rfl⟩ : w = w' ∧ rest = rest' := by simpa [hs, hw] using hs'
    rw [he, he']
    simp only [State.placeRecord, hr, hq]
    exact (hg s).2 _ _ _

/-! ### The blind steps -/

theorem blindToReadout_log (e : Event) : BlindToReadout fun s => s.log e := blindToReadout_of_cases fun s => by
  by_cases h : s.eventLog.length < Config.eventSlots
  · exact ⟨fun t => { t with eventLog := t.logged e, moment := t.moment + 1 }, fun _ => ⟨rfl, fun _ _ _ => rfl⟩,
      fun _ _ _ => if_pos h⟩
  · exact ⟨fun t => { t with eventLog := (t.logged e).dropLast, lost := satInc t.lost },
      fun _ => ⟨rfl, fun _ _ _ => rfl⟩, fun _ _ _ => if_neg h⟩

theorem blindToReadout_count (c : StatCounter) : BlindToReadout fun s => s.count c := fun _ => ⟨rfl, fun _ _ _ => rfl⟩

theorem blindToReadout_raise (c : AlertCause) : BlindToReadout fun s => s.raise c := fun _ => ⟨rfl, fun _ _ _ => rfl⟩

theorem blindToReadout_credit : BlindToReadout State.credit := blindToReadout_of_cases fun s => by
  by_cases h : s.lane.state = .locked ∧ s.power.state ≠ .quiescing
  · exact ⟨fun t => { t with lane := t.lane.send .credit }, fun _ => ⟨rfl, fun _ _ _ => rfl⟩, fun _ _ _ => if_pos h⟩
  · exact ⟨_, blindToReadout_id, fun _ _ _ => if_neg h⟩

theorem blindToReadout_laneHandled : BlindToReadout State.laneHandled := blindToReadout_of_cases fun s => by
  have dropped : BlindToReadout fun t => { t with
      lane := { t.lane.endStall with buffer := bufferAfterHead t.lane.buffer, parked := false } } :=
    fun _ => ⟨rfl, fun _ _ _ => rfl⟩
  by_cases h : (bufferAfterHead s.lane.buffer).length < s.lane.buffer.length
  · exact ⟨_, dropped.comp blindToReadout_credit, fun _ _ _ => if_pos h⟩
  · exact ⟨_, dropped, fun _ _ _ => if_neg h⟩

theorem blindToReadout_padRecord : BlindToReadout State.padRecord := blindToReadout_of_cases fun s => by
  by_cases h : ∃ q r, s.lane.head = some (q, r) ∧ r.type = .pad
  · obtain ⟨q, r, hh, ht⟩ := h
    exact ⟨_, blindToReadout_laneHandled, fun _ _ _ => by simp [State.padRecord, State.withReadout, hh, ht]⟩
  · refine ⟨_, blindToReadout_id, fun w x q => ?_⟩
    rcases (s.withReadout w x q).padRecord_cases with ⟨q', r, hh, ht, -⟩ | he
    · exact absurd ⟨q', r, hh, ht⟩ h
    · exact he

theorem blindToReadout_reservedRecord : BlindToReadout State.reservedRecord := blindToReadout_of_cases fun s => by
  by_cases h : ∃ q r, s.lane.head = some (q, r) ∧ r.type = .reserved
  · obtain ⟨q, r, hh, ht⟩ := h
    exact ⟨_, ((blindToReadout_laneHandled.comp (blindToReadout_count .formatErrors)).comp
        (blindToReadout_log (s.event .laneFormat .lane none (4#8 ++ q)))).comp (blindToReadout_raise .laneError),
      fun _ _ _ => by simp [State.reservedRecord, State.withReadout, State.event, hh, ht]⟩
  · refine ⟨_, blindToReadout_id, fun w x q => ?_⟩
    rcases (s.withReadout w x q).reservedRecord_cases with ⟨q', r, hh, ht, -⟩ | he
    · exact absurd ⟨q', r, hh, ht⟩ h
    · exact he

/-- A change of the withdrawn entries starts and ends no step of a sweep. -/
theorem State.mapPresent_stepInProgress (s : State) (f : Entry → Entry) :
    (s.mapPresent f).stepInProgress = s.stepInProgress := by
  unfold State.stepInProgress
  rw [State.mapPresent_array]
  cases h : s.array.op with
  | none => rfl
  | some op => cases op <;> rfl

theorem blindToReadout_registerMarker (slot : MarkerSlot) (value : Half) :
    BlindToReadout fun s => s.registerMarker slot value := by
  have registered : BlindToReadout fun s =>
      { (s.sealWhere Entry.fromLane).mapPresent fun e =>
          if e.fromLane then { e with waits := e.waits.addMark slot } else e with
        markers := s.markers.occupy slot value } :=
    fun _ => ⟨State.mapPresent_stepInProgress _ _, fun _ _ _ => rfl⟩
  exact registered.comp blindToReadout_laneHandled

theorem blindToReadout_markRecord : BlindToReadout State.markRecord := blindToReadout_of_cases fun s => by
  rcases s.markRecord_cases with ⟨q, r, slot, hh, ht, hp, -, -⟩ | ⟨hd, -⟩
  · exact ⟨_, blindToReadout_registerMarker slot r.bin,
      fun _ _ _ => by simp [State.markRecord, State.withReadout, hh, ht, hp]⟩
  · refine ⟨_, blindToReadout_id, fun w x q => ?_⟩
    rcases (s.withReadout w x q).markRecord_cases with ⟨_, _, _, -, -, -, hd', -⟩ | ⟨-, he⟩
    · exact absurd (hd.symm.trans hd') Bool.false_ne_true
    · exact he

theorem blindToReadout_takeHeads : BlindToReadout State.takeHeads := by
  have heads (n : Nat) : BlindToReadout fun s => s.headRecords n := by
    induction n with
    | zero => exact blindToReadout_id
    | succ n ih =>
      refine blindToReadout_of_cases fun s => ?_
      by_cases h : (s.lane.ownHead || s.markDue) = true
      · have heads := (blindToReadout_padRecord.comp blindToReadout_reservedRecord).comp blindToReadout_markRecord
        exact ⟨_, heads.comp ih, fun _ _ _ => if_pos h⟩
      · exact ⟨_, blindToReadout_id, fun _ _ _ => if_neg h⟩
  exact blindToReadout_of_cases fun s => ⟨_, heads s.lane.records, fun _ _ _ => rfl⟩

theorem blindToReadout_endOfInitialisation : BlindToReadout State.endOfInitialisation :=
  blindToReadout_of_cases fun s => by
  have running : BlindToReadout fun t => { t with power := { t.power with state := .run, initEnd := none } } :=
    fun _ => ⟨rfl, fun _ _ _ => rfl⟩
  cases h : s.power.initEnd with
  | none =>
    exact ⟨_, blindToReadout_id, fun _ _ _ => by simp [State.endOfInitialisation, State.withReadout, h]⟩
  | some filled =>
    exact ⟨_, (running.comp (blindToReadout_log
        (s.event .initialized .power none (if filled then 1#16 else 2#16)))).comp (blindToReadout_raise .power),
      fun _ _ _ => by simp [State.endOfInitialisation, State.withReadout, State.event, h]⟩

theorem blindToReadout_stallReport : BlindToReadout State.stallReport := blindToReadout_of_cases fun s => by
  have taken : BlindToReadout fun t => { t with due := { t.due with stall := none } } :=
    fun _ => ⟨rfl, fun _ _ _ => rfl⟩
  have reports (e : Event) := (taken.comp (blindToReadout_log e)).comp (blindToReadout_raise .laneStall)
  cases h : s.due.stall with
  | none => exact ⟨_, blindToReadout_id, fun _ _ _ => by simp [State.stallReport, State.withReadout, h]⟩
  | some cause =>
    cases cause with
    | update r b =>
      exact ⟨_, reports (s.event .laneStall .lane (some (r, b)) 1#16),
        fun _ _ _ => by simp [State.stallReport, State.withReadout, State.event, h]⟩
    | mark =>
      exact ⟨_, reports (s.event .laneStall .lane none 2#16),
        fun _ _ _ => by simp [State.stallReport, State.withReadout, State.event, h]⟩

theorem blindToReadout_lingerTick : BlindToReadout State.lingerTick := blindToReadout_of_cases fun s => by
  by_cases h : s.due.linger = true
  · exact ⟨fun t => { t with
        due := { t.due with linger := false }
        lingerDivider := 0
        entries := t.entries.map fun e => { e with age := Nat.min (e.age + 1) Config.maxAge } },
      fun _ => ⟨rfl, fun _ _ _ => rfl⟩, fun _ _ _ => if_pos h⟩
  · exact ⟨_, blindToReadout_id, fun _ _ _ => if_neg h⟩

theorem blindToReadout_refreshDue : BlindToReadout State.refreshDue := blindToReadout_of_cases fun s => by
  have restarted : BlindToReadout fun t => { t with
      due := { t.due with refresh := false }, refreshTimer := { t.refreshTimer with divider := 0 } } :=
    fun _ => ⟨rfl, fun _ _ _ => rfl⟩
  have indebted : BlindToReadout fun t => { t with
      refreshTimer := { t.refreshTimer with debt := t.refreshTimer.debt + 1 } } :=
    fun _ => ⟨rfl, fun _ _ _ => rfl⟩
  by_cases h : s.due.refresh = true
  · by_cases hd : s.refreshTimer.debt < Config.maxDebt
    · exact ⟨_, restarted.comp indebted, fun _ _ _ => (if_pos h).trans (if_pos hd)⟩
    · exact ⟨_, ((restarted.comp (blindToReadout_count .refreshOverruns)).comp
          (blindToReadout_log (s.event .refreshOverrun .array none 0#16))).comp (blindToReadout_raise .refresh),
        fun _ _ _ => (if_pos h).trans (if_neg hd)⟩
  · exact ⟨_, blindToReadout_id, fun _ _ _ => if_neg h⟩

theorem blindToReadout_seekRepeat : BlindToReadout State.seekRepeat := blindToReadout_of_cases fun s => by
  by_cases h : s.due.seekRepeat = true
  · exact ⟨fun t => { t with
        due := { t.due with seekRepeat := false }, lane := { t.lane.send .retrain with seekTimer := 0 } },
      fun _ => ⟨rfl, fun _ _ _ => rfl⟩, fun _ _ _ => if_pos h⟩
  · exact ⟨_, blindToReadout_id, fun _ _ _ => if_neg h⟩

theorem blindToReadout_trainTimeout : BlindToReadout State.trainTimeout := blindToReadout_of_cases fun s => by
  by_cases h : s.due.trainTimeout = true
  · exact ⟨fun t => { t with due := { t.due with trainTimeout := false }, lane := t.lane.enterSeek },
      fun _ => ⟨rfl, fun _ _ _ => rfl⟩, fun _ _ _ => if_pos h⟩
  · exact ⟨_, blindToReadout_id, fun _ _ _ => if_neg h⟩

/-- The outstanding steps before the start of a sweep, in their order. -/
def State.beforeSweepStart (s : State) : State :=
  s.takeHeads.endOfInitialisation.stallReport.lingerTick.refreshDue.seekRepeat.trainTimeout

theorem State.settle_eq (s : State) :
    s.settle = s.beforeSweepStart.sweepStart.terminalRecord.endMoment := rfl

theorem blindToReadout_beforeSweepStart : BlindToReadout State.beforeSweepStart :=
  (((((blindToReadout_takeHeads.comp blindToReadout_endOfInitialisation).comp blindToReadout_stallReport).comp
    blindToReadout_lingerTick).comp blindToReadout_refreshDue).comp blindToReadout_seekRepeat).comp
      blindToReadout_trainTimeout

/-- A sweep that is CLOSING at the head has started (R130, R136). -/
theorem State.startDue_of_terminalDue (s : State) (h : s.terminalDue = true) : s.startDue = false := by
  obtain ⟨w, rest, hw, hc, -⟩ := s.terminalRecord_of_due h
  simp [State.startDue, hw, hc]

/-- A terminal record taken by its own row is the one that settling would have placed (R136). -/
theorem State.settle_terminalRecord (s : State) : s.terminalRecord.settle = s.settle := by
  cases h : s.terminalDue
  · rw [s.terminalRecord_of_not_due h]
  · have hd : s.beforeSweepStart.startDue = false :=
      State.startDue_of_terminalDue _ ((blindToReadout_beforeSweepStart.frame s).2.2.2.trans h)
    rw [State.settle_eq, State.settle_eq, blindToReadout_beforeSweepStart.terminalRecord,
      State.sweepStart_of_not_due _ (State.terminalRecord_startDue _ hd), State.sweepStart_of_not_due _ hd,
      State.terminalRecord_of_not_due _ (State.terminalRecord_terminalDue _)]

/-- Settles O3: every other row works on the settled state, and a record taken by its own row is one that settling would
have taken. -/
theorem outstandingStepsComeFirst : Obligations.OutstandingStepsComeFirst := by
  refine ⟨fun c s hr => ⟨fun ho h => ⟨exec_eq_exec_settle c s hr ho h, s.settle_quiet h⟩, exec_of_held c s hr⟩, ?_⟩
  intro s t h ht
  have taken {g : State → State} (hg : (g s).settle = s.settle) (hx : takeOutstanding s g = .next t) :
      t.settle = s.settle := by
    rw [takeOutstanding_of_not_held s g h] at hx
    cases hx
    exact hg
  rcases ht with hx | hx | hx | hx
  · exact taken (State.settle_of_takeHeads _ _ s.takeHeads_padRecord) hx
  · exact taken (State.settle_of_takeHeads _ _ s.takeHeads_reservedRecord) hx
  · exact taken (State.settle_of_takeHeads _ _ s.takeHeads_markRecord) hx
  · exact taken s.settle_terminalRecord hx

end Sys2Proof.Machine
end

section
/-! SUPPORT. The registers of the two check codes step by step (R11, R54), and the bytes of an update record (R56). -/

namespace Sys2Proof.Machine

/-! ### The check codes -/

/-- A sequence of registers, each the shift of the one before it, ends in the iterated shift. -/
theorem iterate_of_steps {α : Type} (f : α → α) (register : Nat → α) (n : Nat)
    (h : ∀ k < n, register (k + 1) = f (register k)) : register n = f^[n] (register 0) := by
  induction n with
  | zero => rfl
  | succ n ih =>
    rw [h n (Nat.lt_succ_self n), ih fun k hk => h k (Nat.lt_succ_of_lt hk), Function.iterate_succ_apply']

theorem crc8_append (bytes : List Byte) (b : Byte) : crc8 (bytes ++ [b]) = crc8Shift^[8] (crc8 bytes ^^^ b) := by
  simp [crc8, crc8Byte]

theorem crc16_append (bytes : List Byte) (b : Byte) :
    crc16 (bytes ++ [b]) = crc16Shift^[8] (crc16 bytes ^^^ (b ++ 0#8)) := by
  have hb : b.zeroExtend 16 <<< 8 = (b ++ 0#8 : Half) := by
    refine BitVec.eq_of_getLsbD_eq fun i hi => ?_
    rw [show (b ++ 0#8 : Half).getLsbD i = _ from BitVec.getLsbD_append]
    simp [hi]
  simp [crc16, crc16Byte, hb]

/-- The CRC-8 after one more byte is the register after eight shifts (R11). -/
theorem crc8_append_of_steps (bytes : List Byte) (b : Byte) (register : Nat → Byte)
    (h0 : register 0 = crc8 bytes ^^^ b)
    (h : ∀ k < 8, register (k + 1)
      = if (register k).getLsbD 7 then (register k <<< 1) ^^^ 0x07#8 else register k <<< 1) :
    crc8 (bytes ++ [b]) = register 8 := by
  rw [crc8_append, ← h0]
  exact (iterate_of_steps crc8Shift register 8 h).symm

/-- The CRC-16 after one more byte is the register after eight shifts (R54). -/
theorem crc16_append_of_steps (bytes : List Byte) (b : Byte) (register : Nat → Half)
    (h0 : register 0 = crc16 bytes ^^^ (b ++ 0#8))
    (h : ∀ k < 8, register (k + 1)
      = if (register k).getLsbD 15 then (register k <<< 1) ^^^ 0x1021#16 else register k <<< 1) :
    crc16 (bytes ++ [b]) = register 8 := by
  rw [crc16_append, ← h0]
  exact (iterate_of_steps crc16Shift register 8 h).symm

/-! ### Fields of a byte string -/

theorem halfBytes_append (a b : Byte) : halfBytes (a ++ b) = [a, b] := by
  have ha : (a ++ b : Half).extractLsb' 8 8 = a := BitVec.extractLsb'_append_eq_left
  have hb : (a ++ b : Half).extractLsb' 0 8 = b := BitVec.extractLsb'_append_eq_right
  rw [halfBytes, ha, hb]

theorem halfBytes_injective (c d : Half) (h : halfBytes c = halfBytes d) : c = d := by
  have whole (x : Half) : x.extractLsb' 8 8 ++ x.extractLsb' 0 8 = x :=
    calc (x.extractLsb' 8 8 ++ x.extractLsb' 0 8 : Half)
      _ = x.extractLsb' 0 (8 + 8) := BitVec.extractLsb'_append_extractLsb'_eq_extractLsb' rfl
      _ = x := BitVec.extractLsb'_eq_self
  obtain ⟨hh, hl⟩ : c.extractLsb' 8 8 = d.extractLsb' 8 8 ∧ c.extractLsb' 0 8 = d.extractLsb' 0 8 := by
    simpa [halfBytes] using h
  rw [← whole c, ← whole d, hh, hl]

theorem wordBytes_append (a b c d : Byte) : wordBytes (a ++ b ++ c ++ d) = [a, b, c, d] := by
  have upper (n : Nat) (h : 8 ≤ n) :
      (a ++ b ++ c ++ d : Word).extractLsb' n 8 = (a ++ b ++ c).extractLsb' (n - 8) 8 :=
    BitVec.extractLsb'_append_eq_of_le h
  have middle (n : Nat) (h : 8 ≤ n) : (a ++ b ++ c).extractLsb' n 8 = (a ++ b).extractLsb' (n - 8) 8 :=
    BitVec.extractLsb'_append_eq_of_le h
  have ha : (a ++ b).extractLsb' 8 8 = a := BitVec.extractLsb'_append_eq_left
  have hb : (a ++ b).extractLsb' 0 8 = b := BitVec.extractLsb'_append_eq_right
  have hc : (a ++ b ++ c).extractLsb' 0 8 = c := BitVec.extractLsb'_append_eq_right
  have hd : (a ++ b ++ c ++ d : Word).extractLsb' 0 8 = d := BitVec.extractLsb'_append_eq_right
  rw [wordBytes, upper 24 (by decide), upper 16 (by decide), upper 8 (by decide), middle 16 (by decide),
    middle 8 (by decide), ha, hb, hc, hd]

theorem recordTypeBits_ofBits (b : BitVec 2) : recordTypeBits (recordTypeOfBits b) = b := by
  revert b
  decide

/-- An update record and its seven bytes say the same (R56). -/
theorem updateRecordBytes_ofBytes (b0 b1 b2 b3 b4 b5 b6 : Byte) :
    updateRecordBytes (updateRecordOfBytes b0 b1 b2 b3 b4 b5 b6) = [b0, b1, b2, b3, b4, b5, b6] := by
  have h0 : (b0.extractLsb' 6 2 ++ b0.extractLsb' 4 2 ++ b0.extractLsb' 0 4 : BitVec 8) = b0 :=
    calc b0.extractLsb' 6 2 ++ b0.extractLsb' 4 2 ++ b0.extractLsb' 0 4
      _ = b0.extractLsb' 4 (2 + 2) ++ b0.extractLsb' 0 4 :=
        congrArg (· ++ b0.extractLsb' 0 4) (BitVec.extractLsb'_append_extractLsb'_eq_extractLsb' rfl)
      _ = b0.extractLsb' 0 (4 + 4) := BitVec.extractLsb'_append_extractLsb'_eq_extractLsb' rfl
      _ = b0 := BitVec.extractLsb'_eq_self
  simp only [updateRecordBytes, updateRecordOfBytes, recordTypeBits_ofBits, h0, halfBytes_append, wordBytes_append]
  rfl

/-- A body of `n` records is taken apart into them, and they are its bytes (R53). -/
theorem parseRecords_spec (n : Nat) (bytes : List Byte) (h : bytes.length = 7 * n) :
    (parseRecords bytes).length = n ∧ (parseRecords bytes).flatMap updateRecordBytes = bytes := by
  induction n generalizing bytes with
  | zero =>
    have : bytes = [] := List.eq_nil_of_length_eq_zero h
    subst this
    exact ⟨rfl, rfl⟩
  | succ n ih =>
    match bytes, h with
    | b0 :: b1 :: b2 :: b3 :: b4 :: b5 :: b6 :: rest, h =>
      obtain ⟨hl, hb⟩ := ih rest (by simp only [List.length_cons] at h; omega)
      exact ⟨by simp [parseRecords, hl], by simp [parseRecords, updateRecordBytes_ofBytes, hb]⟩

/-- The seven bytes of an update record, with the fields of the first (R56). -/
theorem updateRecordBytes_layout (r : UpdateRecord) : ∃ b0 : Byte,
    updateRecordBytes r
        = [b0, r.bin.extractLsb' 8 8, r.bin.extractLsb' 0 8, r.value.extractLsb' 24 8, r.value.extractLsb' 16 8,
          r.value.extractLsb' 8 8, r.value.extractLsb' 0 8]
      ∧ b0.extractLsb' 6 2 = recordTypeBits r.type ∧ b0.extractLsb' 4 2 = r.ignored
      ∧ b0.extractLsb' 0 4 = r.region := by
  have upper (n : Nat) (h : 4 ≤ n) : (recordTypeBits r.type ++ r.ignored ++ r.region : Byte).extractLsb' n 2
      = (recordTypeBits r.type ++ r.ignored).extractLsb' (n - 4) 2 := BitVec.extractLsb'_append_eq_of_le h
  exact ⟨recordTypeBits r.type ++ r.ignored ++ r.region, rfl,
    (upper 6 (by decide)).trans BitVec.extractLsb'_append_eq_left,
    (upper 4 (by decide)).trans BitVec.extractLsb'_append_eq_right, BitVec.extractLsb'_append_eq_right⟩

end Sys2Proof.Machine
end

section
/-! SUPPORT. What crosses the Host Port: the bytes of a response on SDO (R8) and the order of bits on SDO and SDI
(R1). -/

namespace Sys2Proof.Machine

/-! ### Bits -/

theorem getMsbD_byte (b : Byte) (j : Nat) (h : j < 8) : b.getMsbD j = b.getLsbD (7 - j) := by
  simp [BitVec.getMsbD_eq_getLsbD, h]

@[simp] theorem byteBits_length (b : Byte) : (byteBits b).length = 8 := by simp [byteBits]

theorem byteBits_getElem? (b : Byte) (j : Nat) (h : j < 8) : (byteBits b)[j]? = some (b.getLsbD (7 - j)) := by
  simp [byteBits, h, getMsbD_byte b j h]

theorem bytesBits_length (bytes : List Byte) : (bytesBits bytes).length = 8 * bytes.length := by
  simp [bytesBits, Nat.mul_comm]

/-- Bit `j` of byte `k` travels in place `8 k + j`, the most significant bit first (R1). -/
theorem bytesBits_getElem? (bytes : List Byte) (k j : Nat) (b : Byte) (hj : j < 8) (hb : bytes[k]? = some b) :
    (bytesBits bytes)[8 * k + j]? = some (b.getLsbD (7 - j)) := by
  induction bytes generalizing k with
  | nil => simp at hb
  | cons c bytes ih =>
    have hc : bytesBits (c :: bytes) = byteBits c ++ bytesBits bytes := rfl
    rw [hc]
    cases k with
    | zero =>
      obtain rfl : c = b := by simpa using hb
      rw [List.getElem?_append_left (by simpa using hj), Nat.mul_zero, Nat.zero_add, byteBits_getElem? c j hj]
    | succ k =>
      rw [List.getElem?_append_right (by simp only [byteBits_length]; omega),
        show 8 * (k + 1) + j - (byteBits c).length = 8 * k + j by rw [byteBits_length]; omega]
      exact ih k (by simpa using hb)

theorem sdoBit_eq (h : HostPort) (i j : Nat) (hj : j < 8) :
    sdoBit h (8 * i + j) = (sdo h i).map fun b => b.getLsbD (7 - j) := by
  have hd : (8 * i + j) / 8 = i := by omega
  have hm : (8 * i + j) % 8 = j := by omega
  simp only [sdoBit, hd, hm, getMsbD_byte _ j hj]

/-! ### The bytes of a response -/

/-- In RESPONSE the code goes first, then the body, then the CRC over both, and 0xFF from then on (R8, R10, R11). -/
theorem sdo_response (h : HostPort) (op : Opcode) (d : Decision) (i : Nat) (ht : h.tx = .response op d) :
    (i = 0 → sdo h i = some (responseByte d.code))
      ∧ (∀ k < d.body.length, i = k + 1 → sdo h i = d.body[k]?)
      ∧ (i = d.body.length + 1 → sdo h i = some (crc8 (responseByte d.code :: d.body)))
      ∧ (d.body.length + 1 < i → sdo h i = some 0xFF#8) := by
  have hs : sdo h i
      = some ((responseByte d.code :: (d.body ++ [crc8 (responseByte d.code :: d.body)])).getD i 0xFF#8) := by
    simp only [sdo, ht]
    rfl
  rw [hs]
  refine ⟨?_, ?_, ?_, fun hi => ?_⟩
  · rintro rfl
    rfl
  · rintro k hk rfl
    simp [List.getElem?_append_left hk, hk]
  · rintro rfl
    simp
  · rw [List.getD_eq_default]
    simp only [List.length_cons, List.length_append]
    exact hi

/-- Settles O15: the CRC-8 by its register, SDO state by state, and the place of every bit on SDI. -/
theorem responseIsSentWithItsCrc : Obligations.ResponseIsSentWithItsCrc := by
  refine ⟨rfl, crc8_append_of_steps, fun h i => ?_, fun c op body crc hq => ?_⟩
  · exact ⟨fun ht => by simp [sdo, ht], fun op ht => by simp [sdo, ht], fun ht => by simp [sdo, ht],
      fun ht => by simp [sdo, ht], fun op d => sdo_response h op d i, fun j => sdoBit_eq h i j⟩
  · exact ⟨bytesBits (opcodeByte op :: body ++ [crc]), by simp [sdiBits, hq], by simp [bytesBits_length],
      bytesBits_getElem? _⟩

end Sys2Proof.Machine
end

section
/-! SUPPORT. What each part of a timebase tick counts, and that a tick counts them all (R2). -/

namespace Sys2Proof.Machine

/-! ### The parts of a tick -/

theorem State.stallCause_of_empty (s : State) (h : s.lane.head = none) : s.stallCause = none := by
  simp [State.stallCause, h]

/-- The head record that stalls: a parked UPDATE, or a MARK that finds both slots busy (R74). -/
theorem State.stallCause_of_head (s : State) (q : Byte) (r : UpdateRecord) (h : s.lane.head = some (q, r)) :
    s.stallCause =
      if r.type = .update ∧ s.lane.parked = true then some (.update r.region r.bin)
      else if r.type = .mark ∧ s.markers.slot0 ≠ none ∧ s.markers.slot1 ≠ none then some .mark
      else none := by
  cases ht : r.type <;> simp [State.stallCause, h, ht, Option.isSome_iff_ne_none]

/-- The stall monitor at a tick: the count, and the one report of an episode (R74). -/
theorem State.stallTick_eq (s : State) (reports : Bool)
    (h : reports = decide (s.stallCause ≠ none ∧ s.laneControl.holdLimit ≠ 0#16
      ∧ s.laneControl.holdLimit.toNat ≤ s.lane.stallCount + 1 ∧ s.lane.stallReported = false)) :
    s.stallTick = { s with
      lane := { s.lane with
        stallCount := if s.stallCause = none then 0 else s.lane.stallCount + 1
        stallReported := decide (s.stallCause ≠ none) && (s.lane.stallReported || reports) }
      due := { s.due with stall := if reports then s.stallCause else s.due.stall } } := by
  subst h
  unfold State.stallTick
  cases hc : s.stallCause with
  | none => simp [Lane.endStall]
  | some cause =>
    have hz : s.laneControl.holdLimit.toNat ≠ 0 ↔ s.laneControl.holdLimit ≠ 0#16 := by
      rw [ne_eq, ne_eq, BitVec.toNat_eq]; rfl
    simp only [hz]
    by_cases hr : s.laneControl.holdLimit ≠ 0#16 ∧ s.laneControl.holdLimit.toNat ≤ s.lane.stallCount + 1
        ∧ s.lane.stallReported = false
    · simp [hr]
    · simp [hr]

/-- The lane's timers at a tick (R60, R61). -/
theorem State.laneCount_eq (s : State) : s.laneCount = { s with
    lane := { s.lane with
      seekTimer := if s.lane.state = .seek then s.lane.seekTimer + 1 else s.lane.seekTimer
      trainTimer := if s.lane.state = .train then s.lane.trainTimer + 1 else s.lane.trainTimer }
    due := { s.due with
      seekRepeat := s.due.seekRepeat || decide (s.lane.state = .seek) && decide (64 ≤ s.lane.seekTimer + 1)
      trainTimeout :=
        s.due.trainTimeout || decide (s.lane.state = .train) && decide (64 ≤ s.lane.trainTimer + 1) } } := by
  unfold State.laneCount
  split
  case h_1 h =>
    have ht : s.lane.state ≠ .train := by simp [h]
    simp only [if_pos h, if_neg ht, decide_eq_true h, decide_eq_false ht, Bool.true_and, Bool.false_and, Bool.or_false]
    rfl
  case h_2 h =>
    have hs : s.lane.state ≠ .seek := by simp [h]
    simp only [if_pos h, if_neg hs, decide_eq_true h, decide_eq_false hs, Bool.true_and, Bool.false_and, Bool.or_false]
    rfl
  all_goals
    rename_i h
    have hs : s.lane.state ≠ .seek := by simp [h]
    have ht : s.lane.state ≠ .train := by simp [h]
    simp only [if_neg hs, if_neg ht, decide_eq_false hs, decide_eq_false ht, Bool.false_and, Bool.or_false]

/-- The end of an initialisation without a fill (R165). -/
theorem State.initCount_eq (s : State) : s.initCount = { s with
    power := { s.power with
      initEnd := if s.power.state = .init ∧ s.power.fillObligation = false ∧ s.power.fillRow = none then some false
        else s.power.initEnd } } := by
  unfold State.initCount
  split <;> rfl

/-- Settles O48: the tick is the composition of its parts, each counting its own timers. -/
theorem ticksCountEveryTimer : Obligations.TicksCountEveryTimer := by
  intro s cause reports seeks trains hq hcause hreports hseeks htrains
  have hx : exec .timebaseTick s = .next s.tick := takeStep_of_quiet s (fun t => .next t.tick) hq
  obtain ⟨hd, hi, -⟩ := s.settled_iff.1 hq.2
  have hc : cause = s.stallCause := by
    rw [hcause]
    cases hh : s.lane.head with
    | none => rw [s.stallCause_of_empty hh]
    | some x => rw [s.stallCause_of_head x.1 x.2 hh]
  refine ⟨fun hp => ?_, fun hp => ?_⟩
  · rw [hx, State.tick, if_pos hp]
  · subst hc hseeks htrains
    have stalled := State.stallTick_eq
      { s with timebase := { s.timebase with count := s.timebase.count + 1, tickDivider := s.timebase.tbDiv } }
      reports hreports
    rw [hx, State.tick, if_neg hp, stalled, State.initCount_eq, State.laneCount_eq]
    simp [State.refreshCount, State.lingerCount, hd, Due.nothing, hi, State.stallCause]

end Sys2Proof.Machine
end

section
/-! SUPPORT. A frame from the samples of the pins to the checks of LOCKED: how its nibbles make its bytes (R1, R51),
what its fields are (R53, R54), and what each check of R67 to R69 leads to. -/

namespace Sys2Proof.Machine

/-! ### From samples to a frame (R51) -/

theorem frameOfNibbles_oddSample (nibbles : List (BitVec 4)) :
    (frameOfNibbles nibbles).oddSample = decide (nibbles.length % 2 = 1) := by
  induction nibbles using frameOfNibbles.induct with
  | case1 => rfl
  | case2 => rfl
  | case3 high low rest ih =>
    simp only [frameOfNibbles, ih, List.length_cons]
    exact decide_eq_decide.2 (by omega)

theorem frameOfNibbles_length (nibbles : List (BitVec 4)) :
    (frameOfNibbles nibbles).bytes.length = nibbles.length / 2 := by
  induction nibbles using frameOfNibbles.induct with
  | case1 => rfl
  | case2 => simp [frameOfNibbles]
  | case3 high low rest ih => simp only [frameOfNibbles, List.length_cons, ih]; omega

/-- Byte `k` of a frame is its nibbles `2 k` and `2 k + 1`, the high one first (R1). -/
theorem frameOfNibbles_getElem? (nibbles : List (BitVec 4)) (k : Nat) (high low : BitVec 4)
    (hh : nibbles[2 * k]? = some high) (hl : nibbles[2 * k + 1]? = some low) :
    (frameOfNibbles nibbles).bytes[k]? = some (high ++ low) := by
  induction nibbles using frameOfNibbles.induct generalizing k with
  | case1 => simp at hh
  | case2 => simp at hl
  | case3 a b rest ih =>
    cases k with
    | zero =>
      obtain ⟨rfl, rfl⟩ : a = high ∧ b = low := ⟨by simpa using hh, by simpa using hl⟩
      rfl
    | succ k => exact ih k (by simpa [Nat.mul_add] using hh) (by simpa [Nat.mul_add] using hl)

/-- Length, completeness and the pairs of nibbles determine the frame (R51). -/
theorem eq_frameOfNibbles (f : Frame) (nibbles : List (BitVec 4))
    (ho : f.oddSample = decide (nibbles.length % 2 = 1)) (hn : f.bytes.length = nibbles.length / 2)
    (hb : ∀ (k : Nat) (high low : BitVec 4), nibbles[2 * k]? = some high → nibbles[2 * k + 1]? = some low →
      f.bytes[k]? = some (high ++ low)) : f = frameOfNibbles nibbles := by
  have hbytes : f.bytes = (frameOfNibbles nibbles).bytes := by
    refine List.ext_getElem? fun k => ?_
    by_cases hk : k < nibbles.length / 2
    · have hh := List.getElem?_eq_getElem (show 2 * k < nibbles.length by omega)
      have hl := List.getElem?_eq_getElem (show 2 * k + 1 < nibbles.length by omega)
      rw [hb k _ _ hh hl, frameOfNibbles_getElem? nibbles k _ _ hh hl]
    · rw [List.getElem?_eq_none (by omega), List.getElem?_eq_none (by rw [frameOfNibbles_length]; omega)]
  have hodd := ho.trans (frameOfNibbles_oddSample nibbles).symm
  cases f
  simp only at hbytes hodd
  rw [hbytes, hodd]

/-- A row that brings one whole frame to a receiver that is not OFF lets it arrive, whichever row it is (R51). -/
theorem exec_of_brings (row : Instr) (f : Frame) (s w : State) (hq : s.quiet) (ho : s.lane.state ≠ .off)
    (hb : s.brings row f w) : exec row s = .next (w.frameArrives f) := by
  obtain ⟨nibbles, last, samples, hne, rfl, hrow, hwire, hodd, hlen, hbytes, rfl⟩ := hb
  obtain rfl := eq_frameOfNibbles f nibbles hodd hlen hbytes
  obtain ⟨d, more, rfl⟩ := List.exists_cons_of_ne_nil hne
  have edges := s.lclkEdges_frame d last more hq.2 ho hwire
  have hrun (samples : List LaneSample) : takeStep s (fun t => .next (t.lclkEdges samples))
      = .next (s.lclkEdges samples) := takeStep_of_quiet s _ hq
  rcases hrow with rfl | rfl <;> refine (hrun _).trans ?_ <;> rw [edges] <;> simp

/-- What the samples of a frame leave as it was: all but the bits on LRET; the last of them found LFRM low (R51,
R52). -/
theorem State.brings_frame (row : Instr) (f : Frame) (s w : State) (hb : s.brings row f w) :
    w.lane = { s.lane with lret := w.lane.lret } ∧ s.lane.wire = .low ∧ w.timebase = s.timebase
      ∧ w.laneControl = s.laneControl ∧ w.power = s.power := by
  obtain ⟨-, -, samples, -, -, -, hwire, -, -, -, rfl⟩ := hb
  exact ⟨rfl, hwire, rfl, rfl, rfl⟩

/-- Events of one tick carry one stamp (R160). -/
theorem State.event_congr (s t : State) (h : t.timebase = s.timebase) : t.event = s.event := by
  unfold State.event
  rw [h]

/-! ### The fields of a whole frame (R53, R54) -/

theorem frameShort_eq_false_iff (f : Frame) : frameShort f = false ↔ f.oddSample = false ∧ 4 ≤ f.bytes.length := by
  simp [frameShort]

theorem frameKind_eq (f : Frame) (h : frameShort f = false) :
    frameKind f = some ((f.bytes.getD 0 0#8).extractLsb' 4 4) := by
  obtain ⟨-, hl⟩ := (frameShort_eq_false_iff f).1 h
  cases hb : f.bytes with
  | nil => simp [hb] at hl
  | cons b rest => simp [frameKind, hb]

theorem frameCount_eq (f : Frame) (h : frameShort f = false) :
    frameCount f = ((f.bytes.getD 0 0#8).extractLsb' 0 4).toNat := by
  obtain ⟨-, hl⟩ := (frameShort_eq_false_iff f).1 h
  cases hb : f.bytes with
  | nil => simp [hb] at hl
  | cons b rest => simp [frameCount, hb]

/-- The CRC of a whole frame is good when its last two bytes are those of the CRC over the others (R54). -/
theorem frameCrcGood_iff (f : Frame) (h : frameShort f = false) :
    frameCrcGood f = true ↔ f.bytes.drop (f.bytes.length - 2)
      = halfBytes (crc16 (f.bytes.take (f.bytes.length - 2))) := by
  obtain ⟨-, hl⟩ := (frameShort_eq_false_iff f).1 h
  have hlast : f.bytes.drop (f.bytes.length - 2) = halfBytes (frameCrc f) := by
    refine List.ext_getElem? fun k => ?_
    rw [frameCrc, halfBytes_append]
    match k with
    | 0 => simp [show f.bytes.length - 2 < f.bytes.length by omega]
    | 1 =>
      rw [List.getElem?_drop, show f.bytes.length - 2 + 1 = f.bytes.length - 1 by omega]
      simp [show f.bytes.length - 1 < f.bytes.length by omega]
    | k + 2 => simp; omega
  rw [hlast, frameCrcGood, h]
  simp only [Bool.not_false, Bool.true_and, decide_eq_true_eq]
  exact ⟨fun he => by rw [he], fun he => (halfBytes_injective _ _ he).symm⟩

/-! ### The checks of LOCKED (R67, R68) -/

theorem State.frameArrives_locked (s : State) (f : Frame) (h : s.lane.state = .locked) :
    s.frameArrives f = s.lockedFrame f := by
  simp only [State.frameArrives, h]

/-- With every slot used the frame is an overrun (R67). -/
theorem State.lockedFrame_full (s : State) (f : Frame) (h : 4 ≤ s.lane.buffer.length) :
    s.lockedFrame f = s.overrun := if_pos h

/-- The checks of R68 and the acceptance of R69 on a whole frame that finds a slot free and has a good CRC, by its KIND,
COUNT and length. -/
theorem State.lockedFrame_whole (s : State) (f : Frame) (kind : BitVec 4) (n : Nat) (hb : s.lane.buffer.length < 4)
    (hs : frameShort f = false) (hc : frameCrcGood f = true) (hk : kind = (f.bytes.getD 0 0#8).extractLsb' 4 4)
    (hn : n = ((f.bytes.getD 0 0#8).extractLsb' 0 4).toNat) :
    s.lockedFrame f =
      if kind = 2#4 then s
      else if kind ≠ 1#4 then s.formatError 2#8 (frameSeq f)
      else if 1 ≤ n ∧ n ≤ 8 ∧ f.bytes.length = 4 + 7 * n then s.acceptFrame f
      else s.formatError 3#8 (frameSeq f) := by
  have hl : ¬ Config.laneSlots ≤ s.lane.buffer.length := Nat.not_le.2 hb
  simp only [State.lockedFrame, if_neg hl, hs, hc, frameKind_eq f hs, frameCount_eq f hs, ← hk, ← hn, Option.some.injEq,
    ne_eq, Bool.false_eq_true, Bool.true_eq_false, if_false]

theorem State.lockedFrame_short (s : State) (f : Frame) (hb : s.lane.buffer.length < 4) (hs : frameShort f = true) :
    s.lockedFrame f = s.formatError 1#8 0#8 := by
  have hl : ¬ Config.laneSlots ≤ s.lane.buffer.length := Nat.not_le.2 hb
  simp only [State.lockedFrame, if_neg hl, hs, if_true]

theorem State.lockedFrame_badCrc (s : State) (f : Frame) (hb : s.lane.buffer.length < 4) (hs : frameShort f = false)
    (hc : frameCrcGood f = false) : s.lockedFrame f = s.crcError f := by
  have hl : ¬ Config.laneSlots ≤ s.lane.buffer.length := Nat.not_le.2 hb
  simp only [State.lockedFrame, if_neg hl, hs, hc, Bool.false_eq_true, if_false, if_true]

/-! ### Acceptance (R69) -/

/-- The records of an accepted frame are its body, seven bytes each (R53, R56). -/
theorem frameRecords_spec (f : Frame) (n : Nat) (hn : frameCount f = n) (hl : f.bytes.length = 4 + 7 * n) :
    (frameRecords f).length = n ∧ (frameRecords f).flatMap updateRecordBytes = (f.bytes.drop 2).take (7 * n) := by
  unfold frameRecords
  rw [hn]
  exact parseRecords_spec n _ (by rw [List.length_take, List.length_drop]; omega)

theorem State.acceptFrame_eq (s u : State) (f : Frame)
    (hu : u = State.count { s with
      lane := { s.lane with
        buffer := s.lane.buffer ++ [{ seq := frameSeq f, records := frameRecords f }]
        errors := 0#4
        expectedSeq := frameSeq f + 1 } } .goodFrames) :
    s.acceptFrame f =
      if frameSeq f = s.lane.expectedSeq then u
      else ((u.count .seqGaps).log
        (s.event .laneSeq .lane none (s.lane.expectedSeq ++ frameSeq f))).raise .laneError := by
  subst hu
  rfl

/-- Settles O43: the row lets the frame arrive, and the checks of LOCKED lead to an overrun, to nothing or to the
frame's acceptance. -/
theorem lockedFramesAreAccepted : Obligations.LockedFramesAreAccepted := by
  refine ⟨rfl, crc16_append_of_steps, fun r => ?_, fun row f b0 seq n s w hq hlock hbr => ?_⟩
  · obtain ⟨b0, hbytes, htype, hfields⟩ := updateRecordBytes_layout r
    exact ⟨b0, hbytes, by rw [htype]; cases r.type <;> rfl, hfields⟩
  · obtain ⟨hlane, -, htime, -, -⟩ := State.brings_frame row f s w hbr
    have hbuffer : w.lane.buffer = s.lane.buffer := by rw [hlane]
    have hexpected : w.lane.expectedSeq = s.lane.expectedSeq := by rw [hlane]
    have hx := exec_of_brings row f s w hq (by simp [hlock]) hbr
    rw [State.frameArrives_locked w f (by rw [hlane]; exact hlock)] at hx
    rw [← hbuffer, ← hexpected, ← State.event_congr s w htime]
    refine ⟨fun hfull => ?_, fun hfree ho hlen hb0 hseq hn hcrc => ?_⟩
    · rw [hx, w.lockedFrame_full f hfull]
      rfl
    · have hs : frameShort f = false := (frameShort_eq_false_iff f).2 ⟨ho, hlen⟩
      have h0 : f.bytes.getD 0 0#8 = b0 := by simp [hb0]
      have whole := w.lockedFrame_whole f _ n hfree hs ((frameCrcGood_iff f hs).2 hcrc) rfl (by rw [h0, hn])
      rw [h0] at whole
      refine ⟨fun hk => by rw [hx, whole, if_pos hk], fun hk h1 h8 hl => ?_⟩
      obtain rfl : frameSeq f = seq := by simp [frameSeq, hseq]
      obtain ⟨hrecords, hbody⟩ := frameRecords_spec f n (by rw [frameCount_eq f hs, h0, hn]) hl
      refine ⟨frameRecords f, _, hrecords, hbody, rfl, ?_⟩
      rw [hx, whole, hk, if_neg (by decide), if_neg (by decide), if_pos ⟨h1, h8, hl⟩, w.acceptFrame_eq _ f rfl]

end Sys2Proof.Machine
end

section
/-! SUPPORT. What becomes of a frame that fails a check of R68: its report, and the retraining or the CREDIT that
follows (R70, R71). -/

namespace Sys2Proof.Machine

/-- A saturating count rises by one and stays at its greatest value (R3). -/
theorem satInc_toNat {w : Nat} (x : BitVec w) : (satInc x).toNat = min (x.toNat + 1) (2 ^ w - 1) := by
  have hlt := x.isLt
  unfold satInc
  split
  · rename_i h
    rw [h, BitVec.toNat_allOnes]
    omega
  · rename_i h
    have hne : x.toNat ≠ 2 ^ w - 1 := fun he => h (BitVec.eq_of_toNat_eq (by rw [he, BitVec.toNat_allOnes]))
    have hone : 1 % 2 ^ w = 1 := Nat.mod_eq_of_lt (by omega)
    rw [BitVec.toNat_add, BitVec.ofNat_eq_ofNat, BitVec.toNat_ofNat, hone, Nat.mod_eq_of_lt (by omega)]
    omega

/-- A CREDIT in LOCKED: none in QUIESCING, none that finds the return queue full (R52, R71). -/
theorem State.credit_locked (s : State) (h : s.lane.state = .locked) :
    s.credit = if s.power.state = .quiescing ∨ 8 ≤ s.lane.returnQueue.length then s
      else { s with lane := { s.lane with returnQueue := s.lane.returnQueue ++ [.credit] } } := by
  unfold State.credit Lane.send
  by_cases hp : s.power.state = .quiescing
  · simp [hp]
  · by_cases hr : s.lane.returnQueue.length < 8
    · simp [h, hp, hr, Config.returnSlots]
    · simp [h, hp, hr, Config.returnSlots]

/-- The state once a dropped frame's report has raised the error count to `n`. -/
def State.reported (s : State) (n : BitVec 4) : State :=
  State.raise { s with lane := { s.lane with errors := n } } .laneError

/-- At ERR_LIMIT a dropped frame makes the lane retrain (R70). -/
theorem State.frameDropped_retrain (s : State) (n : BitVec 4) (hn : n = satInc s.lane.errors)
    (h : s.laneControl.errLimit ≤ n) :
    s.frameDropped = { ((((s.reported n).log (s.event .laneRetrain .lane none (n.zeroExtend 16))).count .retrains).raise
        .laneState) with lane := { s.lane with errors := n }.enterSeek } := by
  subst hn
  refine (if_pos h).trans ?_
  simp only [State.reported, State.laneEvent, State.log_lane, State.count_lane, State.raise_lane]
  rfl

theorem State.frameDropped_credit (s : State) (n : BitVec 4) (hn : n = satInc s.lane.errors)
    (h : n < s.laneControl.errLimit) : s.frameDropped = (s.reported n).credit := by
  subst hn
  exact if_neg (BitVec.not_le.2 h)

/-! ### The failed check -/

/-- The frame is whole, but its CRC is bad (R68). -/
def frameBadCrc (f : Frame) : Bool :=
  !frameShort f
    && decide (f.bytes.drop (f.bytes.length - 2) ≠ halfBytes (crc16 (f.bytes.take (f.bytes.length - 2))))

/-- The frame's CRC is good, but its KIND is neither DATA nor TRAINING (R68). -/
def frameBadKind (f : Frame) : Bool :=
  !frameShort f && !frameBadCrc f
    && decide ((f.bytes.getD 0 0#8).extractLsb' 4 4 ≠ 1#4 ∧ (f.bytes.getD 0 0#8).extractLsb' 4 4 ≠ 2#4)

/-- The frame is one of KIND DATA, but its COUNT or its length is wrong (R68). -/
def frameBadLength (f : Frame) : Bool :=
  !frameShort f && !frameBadCrc f && decide ((f.bytes.getD 0 0#8).extractLsb' 4 4 = 1#4)
    && !(decide (1 ≤ ((f.bytes.getD 0 0#8).extractLsb' 0 4).toNat ∧ ((f.bytes.getD 0 0#8).extractLsb' 0 4).toNat ≤ 8
      ∧ f.bytes.length = 4 + 7 * ((f.bytes.getD 0 0#8).extractLsb' 0 4).toNat))

/-- The count and the event of a frame that fails a check, by the first that fails (R68). -/
def State.badFrameReport (s : State) (f : Frame) : State :=
  if frameBadCrc f then
    (s.count .crcErrors).log (s.event .laneCrc .lane none (BitVec.ofNat 16 (Nat.min f.bytes.length 65535)))
  else
    (s.count .formatErrors).log (s.event .laneFormat .lane none
      (if frameShort f then 0x0100#16
        else if frameBadKind f then 2#8 ++ f.bytes.getD 1 0#8 else 3#8 ++ f.bytes.getD 1 0#8))

theorem State.badFrameReport_frame (s : State) (f : Frame) :
    (s.badFrameReport f).lane = s.lane ∧ (s.badFrameReport f).timebase = s.timebase
      ∧ (s.badFrameReport f).laneControl = s.laneControl ∧ (s.badFrameReport f).power = s.power := by
  unfold State.badFrameReport
  split <;> simp

theorem frameBadCrc_eq (f : Frame) (hs : frameShort f = false) : frameBadCrc f = !frameCrcGood f := by
  have hi := frameCrcGood_iff f hs
  cases hg : frameCrcGood f <;> simp_all [frameBadCrc]

/-- A frame that fails a check of R68 is reported and dropped, whichever check it is. -/
theorem State.lockedFrame_bad (s : State) (f : Frame) (hb : s.lane.buffer.length < 4)
    (hbad : (frameShort f || frameBadCrc f || frameBadKind f || frameBadLength f) = true) :
    s.lockedFrame f = (s.badFrameReport f).frameDropped := by
  unfold State.badFrameReport
  cases hs : frameShort f with
  | true =>
    rw [s.lockedFrame_short f hb hs, show frameBadCrc f = false by simp [frameBadCrc, hs]]
    rfl
  | false =>
    cases hg : frameCrcGood f with
    | false =>
      rw [s.lockedFrame_badCrc f hb hs hg, frameBadCrc_eq f hs, hg]
      rfl
    | true =>
      have hc : frameBadCrc f = false := by rw [frameBadCrc_eq f hs, hg]; rfl
      rw [s.lockedFrame_whole f _ _ hb hs hg rfl rfl, hc]
      by_cases hk : (f.bytes.getD 0 0#8).extractLsb' 4 4 = 1#4
      · have hkf : frameBadKind f = false := by simp only [frameBadKind, hk]; simp
        have hlf : frameBadLength f = true := by simpa only [hs, hc, hkf, Bool.false_or] using hbad
        simp only [frameBadLength, hs, hc, hk, Bool.not_false, Bool.true_and, decide_true, Bool.not_eq_true',
          decide_eq_false_iff_not] at hlf
        rw [hk, if_neg (by decide), if_neg (by decide), if_neg hlf, hkf]
        rfl
      · have hlf : frameBadLength f = false := by simp only [frameBadLength, hk]; simp
        have hkt : frameBadKind f = true := by simpa only [hs, hc, hlf, Bool.false_or, Bool.or_false] using hbad
        have hk2 : (f.bytes.getD 0 0#8).extractLsb' 4 4 ≠ 2#4 := by
          simp only [frameBadKind, Bool.and_eq_true, decide_eq_true_eq] at hkt
          exact hkt.2.2
        rw [if_neg hk2, if_pos hk, hkt]
        rfl

/-- Settles O44: the failed check makes the report, the report raises the error count, and the count decides between the
retraining and the CREDIT. -/
theorem badFramesAreDropped : Obligations.BadFramesAreDropped := by
  intro row f b0 seq short badCrc badKind badLength n s w u hq hlock hfree hbr h0 h1 hshort hcrc hkind hlength
    hbad hn hu
  subst h0 h1
  obtain rfl : short = frameShort f := hshort
  obtain rfl : badCrc = frameBadCrc f := hcrc
  obtain rfl : badKind = frameBadKind f := hkind
  obtain rfl : badLength = frameBadLength f := hlength
  obtain ⟨hlane, hwire, htime, hcontrol, hpower⟩ := State.brings_frame row f s w hbr
  have hstate : w.lane.state = .locked := by rw [hlane]; exact hlock
  have hbuffer : w.lane.buffer = s.lane.buffer := by rw [hlane]
  have hqueue : w.lane.returnQueue = s.lane.returnQueue := by rw [hlane]
  have herrors : w.lane.errors = s.lane.errors := by rw [hlane]
  have hlow : w.lane.wire = .low := by rw [hlane]; exact hwire
  obtain ⟨tlane, ttime, tcontrol, tpower⟩ := w.badFrameReport_frame f
  have hx : exec row s = .next (w.badFrameReport f).frameDropped := by
    rw [exec_of_brings row f s w hq (by simp [hlock]) hbr, w.frameArrives_locked f hstate,
      w.lockedFrame_bad f (by rw [hbuffer]; exact hfree) hbad]
  have hu' : u = (w.badFrameReport f).reported n := by
    rw [hu, State.reported, tlane, State.badFrameReport, State.event_congr s w htime]
  have hn' : n = satInc (w.badFrameReport f).lane.errors :=
    BitVec.eq_of_toNat_eq (by rw [satInc_toNat, tlane, herrors]; exact hn)
  rw [← hcontrol, ← tcontrol, hx]
  refine ⟨fun hlimit => ?_, fun hlimit => ?_⟩
  · rw [State.frameDropped_retrain _ n hn' hlimit, ← hu', State.event_congr s _ (ttime.trans htime), tlane]
    simp only [Lane.enterSeek, hlow, Wire.abandon]
  · have hpu : u.power = s.power := by rw [hu', State.reported, State.raise_power, tpower, hpower]
    have hlu : u.lane = { w.lane with errors := n } := by rw [hu', State.reported, State.raise_lane, tlane]
    rw [State.frameDropped_credit _ n hn' hlimit, ← hu', u.credit_locked (by rw [hlu]; exact hstate), hpu, hlu, hqueue]

end Sys2Proof.Machine
end

section
/-! SUPPORT. Every queue, list and count within its size (R15, R24, R31, R43, R52, R57, R109, R127, R131,
R139, R146, R158): the sizes by name, and that each operation over the state keeps them. -/

namespace Sys2Proof.Machine

/-! ### The sizes by name -/

/-- `State.withinCapacity` with its parts named. -/
structure State.Fits (s : State) : Prop where
  hostFifo : s.hostFifo.length ≤ Config.hostFifoSlots
  commands : s.commands.length ≤ Config.commandSlots
  completions : s.completions.length ≤ Config.completionSlots
  buffer : s.lane.buffer.length ≤ Config.laneSlots
  returnQueue : s.lane.returnQueue.length ≤ Config.returnSlots
  occupancy : s.occupancy ≤ Config.mergeSlots
  sweeps : s.sweeps.length ≤ Config.sweepSlots
  readout : s.readout.length ≤ Config.readoutSlots
  stepSlot : s.stepInProgress = true → s.readout.length < Config.readoutSlots
  eventLog : s.eventLog.length ≤ Config.eventSlots
  debt : s.refreshTimer.debt ≤ Config.maxDebt
  commitFits : s.commitFits = true

theorem State.withinCapacity_iff (s : State) : s.withinCapacity ↔ s.Fits :=
  ⟨fun ⟨hostFifo, commands, completions, buffer, returnQueue, occupancy, sweeps, readout, stepSlot, eventLog, debt,
      commitFits⟩ =>
    { hostFifo, commands, completions, buffer, returnQueue, occupancy, sweeps, readout, stepSlot, eventLog, debt,
      commitFits },
    fun h => ⟨h.hostFifo, h.commands, h.completions, h.buffer, h.returnQueue, h.occupancy, h.sweeps, h.readout,
      h.stepSlot, h.eventLog, h.debt, h.commitFits⟩⟩

/-- The sizes that the lane's own operations touch (R52, R57). -/
structure Lane.Fits (l : Lane) : Prop where
  buffer : l.buffer.length ≤ Config.laneSlots
  returnQueue : l.returnQueue.length ≤ Config.returnSlots

theorem State.Fits.lane {s : State} (h : s.Fits) : s.lane.Fits := ⟨h.buffer, h.returnQueue⟩

theorem State.Fits.withLane {s : State} {l : Lane} (h : s.Fits) (hl : l.Fits) : State.Fits { s with lane := l } :=
  { h with buffer := hl.buffer, returnQueue := hl.returnQueue }

/-- A decided command still fits once the queues that it joins are no longer than before (R15). -/
theorem State.commitFits_of_le (s t : State) (htx : t.host.tx = s.host.tx)
    (hf : t.hostFifo.length ≤ s.hostFifo.length) (hc : t.commands.length ≤ s.commands.length)
    (h : s.commitFits = true) : t.commitFits = true := by
  unfold State.commitFits at *
  rw [htx]
  split
  · rename_i hs
    simp only [hs, decide_eq_true_eq] at *
    omega
  · rename_i hs
    simp only [hs, decide_eq_true_eq] at *
    omega
  · rfl

/-- With no decided command there is none to fit. -/
theorem State.commitFits_of_idle (s : State) (h : s.host.tx = .idle) : s.commitFits = true := by
  simp [State.commitFits, h]

/-- With no more entries in the list, and the operation in progress as before, no more slots are in use (R109). -/
theorem State.occupancy_le_of_entries_le (s t : State) (he : t.entries.length ≤ s.entries.length)
    (ho : t.array.op = s.array.op) : t.occupancy ≤ s.occupancy := by
  simp only [State.occupancy, State.withdrawn, ho]
  omega

/-! ### Counts, alerts and events -/

section
variable {s : State}

theorem State.Fits.count (h : s.Fits) (c : StatCounter) : (s.count c).Fits := { h with }

theorem State.Fits.raise (h : s.Fits) (c : AlertCause) : (s.raise c).Fits := { h with }

theorem State.Fits.endMoment (h : s.Fits) : s.endMoment.Fits := { h with }

/-- With the log full the last of the moment's events is lost (R158). -/
theorem State.Fits.log (h : s.Fits) (e : Event) : (s.log e).Fits := by
  rcases s.log_cases e with ⟨hl, he⟩ | ⟨-, he⟩ <;> rw [he]
  · exact { h with eventLog := by rw [State.logged_length]; exact hl }
  · exact { h with eventLog := by rw [List.length_dropLast, State.logged_length]; exact h.eventLog }

theorem State.Fits.foldl_log (h : s.Fits) (l : List Event) : (l.foldl State.log s).Fits := by
  induction l generalizing s with
  | nil => exact h
  | cons e l ih => exact ih (h.log e)

theorem State.Fits.onlyIf (h : s.Fits) (p : Bool) (f : State → State) (hf : (f s).Fits) : (s.onlyIf p f).Fits := by
  cases p
  · exact h
  · exact hf

theorem State.Fits.hostError (h : s.Fits) (opcode reason : Byte) : (s.hostError opcode reason).Fits :=
  (h.log _).raise _

/-! ### The lane -/

theorem Lane.Fits.send {l : Lane} (h : l.Fits) (m : LaneMessage) : (l.send m).Fits := by
  unfold Lane.send
  split
  · exact { h with returnQueue := by simpa using ‹l.returnQueue.length < Config.returnSlots› }
  · exact h

theorem Lane.Fits.endStall {l : Lane} (h : l.Fits) : l.endStall.Fits := { h with }

theorem Lane.Fits.enterSeek {l : Lane} (h : l.Fits) : l.enterSeek.Fits :=
  { h with returnQueue := (by decide : 1 ≤ Config.returnSlots) }

theorem Lane.Fits.enterOff {l : Lane} (h : l.Fits) : l.enterOff.Fits :=
  { h with returnQueue := Nat.zero_le _ }

theorem Lane.restart_fits (l : Lane) (enabled : Bool) : (l.restart enabled).Fits := by
  unfold Lane.restart
  cases enabled
  · exact ⟨Nat.zero_le _, Nat.zero_le _⟩
  · exact ⟨Nat.zero_le _, (by decide : 1 ≤ Config.returnSlots)⟩

theorem State.Fits.credit (h : s.Fits) : s.credit.Fits := by
  unfold State.credit
  split
  · exact h.withLane (h.lane.send _)
  · exact h

theorem bufferAfterHead_length_le (b : List LaneFrame) : (bufferAfterHead b).length ≤ b.length := by
  unfold bufferAfterHead
  split
  · rfl
  · split <;> simp

theorem State.Fits.laneHandled (h : s.Fits) : s.laneHandled.Fits := by
  have handled : State.Fits { s with
      lane := { s.lane.endStall with buffer := bufferAfterHead s.lane.buffer, parked := false } } :=
    h.withLane { h.lane with buffer := (bufferAfterHead_length_le _).trans h.buffer }
  unfold State.laneHandled
  dsimp only
  split
  · exact handled.credit
  · exact handled

theorem State.Fits.padRecord (h : s.Fits) : s.padRecord.Fits := by
  rcases s.padRecord_cases with ⟨_, _, -, -, he⟩ | he <;> rw [he]
  · exact h.laneHandled
  · exact h

theorem State.Fits.reservedRecord (h : s.Fits) : s.reservedRecord.Fits := by
  rcases s.reservedRecord_cases with ⟨_, _, -, -, he⟩ | he <;> rw [he]
  · exact ((h.laneHandled.count _).log _).raise _
  · exact h

theorem State.Fits.ownRecords (h : s.Fits) (n : Nat) : (s.ownRecords n).Fits := by
  induction n generalizing s with
  | zero => exact h
  | succ n ih =>
    unfold State.ownRecords
    split
    · exact ih h.padRecord.reservedRecord
    · exact h

theorem State.Fits.handleOwn (h : s.Fits) : s.handleOwn.Fits := h.ownRecords _

/-! ### Entries -/

/-- With no more entries in the list and all else as before, everything fits (R109). -/
theorem State.Fits.withEntries (h : s.Fits) {l : List Entry} (hl : l.length ≤ s.entries.length) :
    State.Fits { s with entries := l } :=
  { h with occupancy := (State.occupancy_le_of_entries_le s { s with entries := l } hl rfl).trans h.occupancy }

theorem State.Fits.sealWhere (h : s.Fits) (p : Entry → Bool) : (s.sealWhere p).Fits :=
  h.withEntries (by rw [List.length_map])

theorem ArrayOp.mapWithdrawn_length (f : Entry → Entry) (op : ArrayOp) :
    (op.mapWithdrawn f).withdrawn.length = op.withdrawn.length := by
  cases op with
  | commit | binRead | binWrite | sweepStep | initStep => exact List.length_map _
  | refresh | poisonFill => rfl

theorem State.mapPresent_occupancy (s : State) (f : Entry → Entry) : (s.mapPresent f).occupancy = s.occupancy := by
  simp only [State.occupancy, State.withdrawn, State.mapPresent_entries, State.mapPresent_array, List.length_map]
  cases s.array.op with
  | none => rfl
  | some op => simp [ArrayOp.mapWithdrawn_length]

theorem State.Fits.mapPresent (h : s.Fits) (f : Entry → Entry) : (s.mapPresent f).Fits :=
  { h with
    occupancy := by rw [State.mapPresent_occupancy]; exact h.occupancy
    stepSlot := by rw [State.mapPresent_stepInProgress]; exact h.stepSlot }

/-- A new entry takes a free slot (R110). -/
theorem State.Fits.appendEntry (h : s.Fits) (e : Entry) (ho : s.occupancy < Config.mergeSlots) :
    State.Fits { s with entries := s.entries ++ [e] } :=
  { h with
    occupancy := by
      simp only [State.occupancy, State.withdrawn, List.length_append, List.length_singleton] at *
      omega }

/-! ### The acceptance point (R88 to R90, R110 to R112) -/

theorem State.Fits.hostDeparted (h : s.Fits) : s.hostDeparted.Fits :=
  have fifo : s.hostDeparted.hostFifo.length ≤ s.hostFifo.length := by simp
  have commands : s.hostDeparted.commands.length = s.commands.length := by simp
  { h with
    hostFifo := fifo.trans h.hostFifo
    commands := commands.le.trans h.commands
    commitFits := State.commitFits_of_le s _ rfl fifo commands.le h.commitFits }

theorem State.Fits.depart (h : s.Fits) (src : Source) : (s.depart src).Fits := by
  cases src
  · exact h.laneHandled
  · exact h.hostDeparted

theorem State.Fits.park (h : s.Fits) (src : Source) : (s.park src).Fits := by
  cases src
  · exact h.withLane { h.lane with }
  · exact { h with }

theorem State.Fits.setRegion (h : s.Fits) (r : RegionIx) (reg : Region) : (s.setRegion r reg).Fits := { h with }

theorem State.Fits.reject (h : s.Fits) (src : Source) (r : HostRecord) (reason : Byte) :
    (s.reject src r reason).Fits := by
  unfold State.reject
  dsimp only
  split
  · exact (h.setRegion _ _).depart src
  · exact ((h.setRegion _ _).depart src).log _

theorem State.Fits.openEntry (h : s.Fits) (src : Source) (r : HostRecord) (v : Int) :
    (s.openEntry src r v).Fits := by
  unfold State.openEntry
  split
  · exact (h.appendEntry _ ‹_›).depart src
  · exact h.park src

theorem State.Fits.place (h : s.Fits) (src : Source) (r : HostRecord) (v : Int) : (s.place src r v).Fits := by
  rcases s.place_cases src r v with ⟨_, -, -, he⟩ | ⟨-, he⟩ | ⟨_, -, -, he⟩ <;> rw [he]
  · exact (h.withEntries (by rw [List.length_map])).depart src
  · exact h.openEntry src r v
  · exact (h.sealWhere _).openEntry src r v

theorem State.Fits.offer (h : s.Fits) (src : Source) : (s.offer src).1.Fits := by
  rcases s.offer_cases src with ⟨-, he⟩ | ⟨r, reason, -, -, he⟩ | ⟨r, -, -, he⟩ <;> rw [he]
  · exact h
  · exact h.reject src r reason
  · exact h.place src r _

theorem State.Fits.round (h : s.Fits) (laneReady hostReady : Bool) : (s.round laneReady hostReady).state.Fits := by
  have turned (t : Source) : State.Fits { s with turn := t } := { h with }
  unfold State.round
  split
  · split
    · exact ((turned _).offer _).offer _
    · exact ((turned _).offer _).offer _
  · split
    · exact (turned _).offer _
    · split
      · exact (turned _).offer _
      · exact h

theorem State.Fits.rounds (h : s.Fits) (laneReady hostReady : Bool) (n : Nat) :
    (s.rounds laneReady hostReady n).Fits := by
  induction n generalizing s laneReady hostReady with
  | zero => exact h
  | succ n ih =>
    have after : (if (s.round laneReady hostReady).laneRejected then (s.round laneReady hostReady).state.handleOwn
        else (s.round laneReady hostReady).state).Fits := by
      split
      · exact (h.round _ _).handleOwn
      · exact h.round _ _
    unfold State.rounds
    dsimp only
    split
    · exact ih after _ _
    · exact after

theorem State.Fits.offers (h : s.Fits) (laneReady hostReady : Bool) : (s.offers laneReady hostReady).Fits :=
  h.rounds _ _ _

theorem State.Fits.reoffer (h : s.Fits) : s.reoffer.Fits := by
  unfold State.reoffer
  split
  · exact h.offers _ _
  · exact h

theorem State.Fits.passUnparked (h : s.Fits) : s.passUnparked.Fits := by
  unfold State.passUnparked
  split
  · exact h.offers _ _
  · exact h

/-! ### The Region Controller (R80 to R86) -/

theorem State.Fits.withController (h : s.Fits) (c : RegionController) :
    State.Fits { s with regionController := c } := { h with }

theorem State.Fits.regionResult (h : s.Fits) (t : Ticket) (r : Result) : (s.regionResult t r).Fits :=
  h.withController _

theorem State.Fits.act (h : s.Fits) (c : RegionCommand) : (s.act c).Fits := by
  cases c with
  | define t r raw =>
    simp only [State.act, State.actDefine]
    split
    · exact h.regionResult _ _
    · exact (h.setRegion _ _).regionResult _ _
  | init t r =>
    simp only [State.act, State.actInit]
    split
    · exact (h.setRegion _ _).withController _
    · exact h.regionResult _ _
  | adopt t r =>
    simp only [State.act, State.actAdopt]
    split
    · exact (h.setRegion _ _).regionResult _ _
    · exact h.regionResult _ _
  | retire t r =>
    simp only [State.act, State.actRetire]
    split
    · exact h.regionResult _ _
    · split
      · exact h.regionResult _ _
      · exact ((h.setRegion _ _).withEntries (List.length_filter_le _ _)).regionResult _ _

theorem State.Fits.beforeAction (h : s.Fits) : s.beforeAction.Fits := by
  unfold State.beforeAction
  split
  · exact h.passUnparked
  all_goals exact h

theorem State.Fits.actionMoment (h : s.Fits) : s.actionMoment.Fits := by
  unfold State.actionMoment
  split
  · exact (h.act _).offers _ _
  all_goals exact h

theorem State.Fits.takeRegionCommand (h : s.Fits) (c : RegionCommand) : (s.takeRegionCommand c).Fits := by
  unfold State.takeRegionCommand
  dsimp only
  split
  · exact h.withController _
  · exact (h.withController _).beforeAction.actionMoment

/-! ### The steps that fall at the moment of an earlier event -/

theorem State.Fits.registerMarker (h : s.Fits) (slot : MarkerSlot) (value : Half) :
    (s.registerMarker slot value).Fits :=
  State.Fits.laneHandled { (h.sealWhere Entry.fromLane).mapPresent
    fun e => if e.fromLane then { e with waits := e.waits.addMark slot } else e with }

theorem State.Fits.markRecord (h : s.Fits) : s.markRecord.Fits := by
  rcases s.markRecord_cases with ⟨_, _, _, -, -, -, -, he⟩ | ⟨-, he⟩ <;> rw [he]
  · exact h.registerMarker _ _
  · exact h

theorem State.Fits.takeHeads (h : s.Fits) : s.takeHeads.Fits := by
  have heads (n : Nat) : ∀ t : State, t.Fits → (t.headRecords n).Fits := by
    induction n with
    | zero => exact fun _ ht => ht
    | succ n ih =>
      intro t ht
      unfold State.headRecords
      split
      · exact ih _ ht.padRecord.reservedRecord.markRecord
      · exact ht
  exact heads _ s h

theorem State.Fits.endOfInitialisation (h : s.Fits) : s.endOfInitialisation.Fits := by
  unfold State.endOfInitialisation
  split
  · exact h
  · rename_i filled _
    have running : State.Fits { s with power := { s.power with state := .run, initEnd := none } } := { h with }
    exact (running.log _).raise _

theorem State.Fits.stallReport (h : s.Fits) : s.stallReport.Fits := by
  unfold State.stallReport
  split
  · exact h
  · have taken : State.Fits { s with due := { s.due with stall := none } } := { h with }
    exact (taken.log _).raise _

theorem State.Fits.lingerTick (h : s.Fits) : s.lingerTick.Fits := by
  unfold State.lingerTick
  split
  · exact { h.withEntries (l := s.entries.map fun e => { e with age := Nat.min (e.age + 1) Config.maxAge })
      (by rw [List.length_map]) with }
  · exact h

theorem State.Fits.refreshDue (h : s.Fits) : s.refreshDue.Fits := by
  unfold State.refreshDue
  split
  · have restarted : State.Fits { s with
        due := { s.due with refresh := false }, refreshTimer := { s.refreshTimer with divider := 0 } } := { h with }
    dsimp only
    split
    · exact { restarted with debt := ‹s.refreshTimer.debt < Config.maxDebt› }
    · exact ((restarted.count _).log _).raise _
  · exact h

theorem State.Fits.seekRepeat (h : s.Fits) : s.seekRepeat.Fits := by
  unfold State.seekRepeat
  split
  · exact { h.withLane (h.lane.send .retrain) with }
  · exact h

theorem State.Fits.trainTimeout (h : s.Fits) : s.trainTimeout.Fits := by
  unfold State.trainTimeout
  split
  · exact { h.withLane h.lane.enterSeek with }
  · exact h

theorem State.Fits.sweepStart (h : s.Fits) : s.sweepStart.Fits := by
  unfold State.sweepStart
  split
  · exact h
  · rename_i w rest hw
    split
    · refine { h.withEntries ?_ with sweeps := by simpa [hw] using h.sweeps }
      split
      · rw [List.length_map]
      · rfl
    · exact h

/-- The terminal record takes a free slot, with no step in progress that needs it (R136). -/
theorem State.Fits.terminalRecord (h : s.Fits) : s.terminalRecord.Fits := by
  cases hd : s.terminalDue
  · rwa [s.terminalRecord_of_not_due hd]
  · obtain ⟨w, rest, hw, -, he⟩ := s.terminalRecord_of_due hd
    simp only [State.terminalDue, hw, Bool.and_eq_true, Bool.not_eq_true', decide_eq_true_eq] at hd
    obtain ⟨⟨-, hstep⟩, hroom⟩ := hd
    rw [he]
    exact { h with
      sweeps := by simpa [hw] using h.sweeps
      readout := by simpa [State.placeRecord] using hroom
      stepSlot := fun hs => absurd hs (Bool.eq_false_iff.1 hstep) }

theorem State.Fits.settle (h : s.Fits) : s.settle.Fits :=
  h.takeHeads.endOfInitialisation.stallReport.lingerTick.refreshDue.seekRepeat.trainTimeout.sweepStart.terminalRecord
    |>.endMoment

end

end Sys2Proof.Machine
end

section
/-! SUPPORT. Every queue, list and count within its size, row by row: what the meaning of each command makes of a state
whose sizes are kept, and that every step keeps them. -/

namespace Sys2Proof.Machine

section
variable {s : State}

/-! ### The lane's frames (R51, R60 to R64, R67 to R70) -/

theorem State.Fits.withTraining (h : s.Fits) (t : Training) :
    State.Fits { s with lane := { s.lane with training := t } } := h.withLane { h.lane with }

theorem State.Fits.enterTrain (h : s.Fits) : s.enterTrain.Fits := h.withLane { h.lane with }

theorem State.Fits.trainingPassed (h : s.Fits) (t : Trim) : (s.trainingPassed t).Fits :=
  h.withLane { h.lane.send (.ready _) with }

theorem State.Fits.trainingFailed (h : s.Fits) : s.trainingFailed.Fits := by
  have failed : State.Fits { s with lane := { s.lane with state := .fault, returnQueue := [] } } :=
    h.withLane { h.lane with returnQueue := Nat.zero_le _ }
  exact (failed.log _).raise _

theorem State.Fits.trimJudged (h : s.Fits) : s.trimJudged.Fits := by
  unfold State.trimJudged
  dsimp only
  split
  · split
    · split
      · exact (h.withTraining _).trainingPassed _
      · exact (h.withTraining _).trainingFailed
    · exact h.withTraining _
  · split
    · exact (h.withTraining _).trainingFailed
    · exact (h.withTraining _).trainingPassed _

theorem State.Fits.trainFrame (h : s.Fits) (f : Frame) : (s.trainFrame f).Fits := by
  have timed : State.Fits { s with lane := { s.lane with trainTimer := 0 } } := h.withLane { h.lane with }
  unfold State.trainFrame
  dsimp only
  split
  · exact timed
  · split
    · exact timed.withTraining _
    · exact (timed.withTraining _).trimJudged

theorem State.Fits.seekFrame (h : s.Fits) (f : Frame) : (s.seekFrame f).Fits := by
  unfold State.seekFrame
  split
  · exact h
  · exact h.enterTrain

theorem State.Fits.frameDropped (h : s.Fits) : s.frameDropped.Fits := by
  have counted : State.Fits { s with lane := { s.lane with errors := satInc s.lane.errors } } :=
    h.withLane { h.lane with }
  have reported := counted.raise .laneError
  unfold State.frameDropped
  dsimp only
  split
  · have retrained (e : Event) := ((reported.log e).count .retrains).raise .laneState
    exact (retrained _).withLane (retrained _).lane.enterSeek
  · exact reported.credit

theorem State.Fits.overrun (h : s.Fits) : s.overrun.Fits := ((h.count _).log _).raise _

/-- An accepted frame takes a free slot (R57, R69). -/
theorem State.Fits.acceptFrame (h : s.Fits) (f : Frame) (hb : s.lane.buffer.length < Config.laneSlots) :
    (s.acceptFrame f).Fits := by
  have held := State.Fits.count (h.withLane (l := { s.lane with
      buffer := s.lane.buffer ++ [{ seq := frameSeq f, records := frameRecords f }]
      errors := 0#4
      expectedSeq := frameSeq f + 1 }) { h.lane with buffer := by simpa using hb }) .goodFrames
  rw [s.acceptFrame_eq _ f rfl]
  split
  · exact held
  · exact ((held.count _).log _).raise _

theorem State.Fits.lockedFrame (h : s.Fits) (f : Frame) : (s.lockedFrame f).Fits := by
  unfold State.lockedFrame
  split
  · exact h.overrun
  rename_i hb
  split
  · exact ((h.count _).log _).frameDropped
  split
  · exact ((h.count _).log _).frameDropped
  split
  · exact h
  split
  · exact ((h.count _).log _).frameDropped
  split
  · exact h.acceptFrame f (Nat.lt_of_not_le hb)
  · exact ((h.count _).log _).frameDropped

theorem State.Fits.frameArrives (h : s.Fits) (f : Frame) : (s.frameArrives f).Fits := by
  unfold State.frameArrives
  split
  · exact h
  · exact h
  · exact h.seekFrame f
  · exact h.trainFrame f
  · exact h.lockedFrame f

theorem State.Fits.withWire (h : s.Fits) (w : Wire) : State.Fits { s with lane := { s.lane with wire := w } } :=
  h.withLane { h.lane with }

theorem State.Fits.samplePins (h : s.Fits) (x : LaneSample) : (s.samplePins x).Fits := by
  unfold State.samplePins
  split
  · exact h.withWire _
  · exact h.withWire _
  · exact (h.withWire _).frameArrives _
  · exact h.withWire _
  all_goals exact h

theorem State.Fits.lclkEdge (h : s.Fits) (x : LaneSample) : (s.lclkEdge x).Fits := by
  have sent : State.Fits { s with lane := { s.lane with lret := s.lane.lret.tail } } := h.withLane { h.lane with }
  unfold State.lclkEdge
  dsimp only
  split
  · exact sent
  · exact sent.samplePins x

theorem State.Fits.lclkEdges (h : s.Fits) (samples : List LaneSample) : (s.lclkEdges samples).Fits := by
  unfold State.lclkEdges
  induction samples generalizing s with
  | nil => exact h
  | cons x samples ih => exact ih (h.settle.lclkEdge x)

theorem State.Fits.laneReset (h : s.Fits) : s.laneReset.Fits := by
  have restarted := h.withLane (s.lane.restart_fits s.laneControl.enable)
  unfold State.laneReset
  dsimp only
  split
  · exact (restarted.log _).raise _
  · exact restarted.log _

/-! ### Array operations (R144) -/

/-- An operation begins with its withdrawn entries in their slots, and a step of a sweep with a free slot in the Readout
FIFO (R109, R131, R139). -/
theorem State.Fits.startOp (h : s.Fits) (op : ArrayOp)
    (ho : s.entries.length + op.withdrawn.length ≤ Config.mergeSlots)
    (hr : ∀ c, op = .sweepStep c → s.readout.length < Config.readoutSlots) : (s.startOp op).Fits :=
  { h with
    occupancy := ho
    stepSlot := fun hs => by
      cases op with
      | sweepStep c => exact hr c rfl
      | _ => cases hs }

/-- An operation that is over frees the slots of its withdrawn entries, and leaves none that needs a slot of the Readout
FIFO. -/
theorem State.Fits.endOp (h : s.Fits) : s.endOp.Fits :=
  { h with
    occupancy := (Nat.le_add_right _ _).trans h.occupancy
    stepSlot := fun hs => nomatch hs }

theorem State.finishOp_fits (departed : Bool) (h : s.endOp.Fits) : (s.finishOp departed).Fits := by
  unfold State.finishOp
  dsimp only
  split
  · exact h.reoffer.actionMoment
  · exact h.beforeAction.actionMoment

theorem State.Fits.finishOp (h : s.Fits) (departed : Bool) : (s.finishOp departed).Fits :=
  State.finishOp_fits departed h.endOp

theorem State.Fits.accessCounter (h : s.Fits) (c : CounterOp) : (s.accessCounter c).Fits := by
  have accesses (l : List Nat) : ∀ t : State, t.Fits → (l.foldl State.access t).Fits := by
    induction l with
    | nil => exact fun _ ht => ht
    | cons a l ih => exact fun t ht => ih _ { ht with }
  exact accesses _ s h

theorem State.Fits.storeCounter (h : s.Fits) (c : CounterOp) (bits : BitVec 64) : (s.storeCounter c bits).Fits :=
  { h with }

theorem State.Fits.markPoisoned (h : s.Fits) (c : CounterOp) (k : ReadKind) : (s.markPoisoned c k).Fits := by
  unfold State.markPoisoned
  split
  · exact { h with }
  · exact h

theorem State.Fits.writeBack (h : s.Fits) (c : CounterOp) (k : ReadKind) : (s.writeBack c k).Fits := by
  unfold State.writeBack
  split
  · exact h.storeCounter c _
  · split
    · exact h
    · split
      · exact h.storeCounter c _
      · exact h

theorem State.Fits.readReports (h : s.Fits) (c : CounterOp) (k : ReadKind) : (s.readReports c k).Fits := by
  have counts {t : State} (ht : t.Fits) (p : Bool) (x : StatCounter) : (t.onlyIf p fun s => s.count x).Fits :=
    ht.onlyIf p _ (ht.count x)
  have raises {t : State} (ht : t.Fits) (p : Bool) (x : AlertCause) : (t.onlyIf p fun s => s.raise x).Fits :=
    ht.onlyIf p _ (ht.raise x)
  exact raises (raises (raises (counts (counts (counts (h.foldl_log _) _ _) _ _) _ _) _ _) _ _) _ _

theorem State.Fits.readCounter (h : s.Fits) (c : CounterOp) (k : ReadKind) : (s.readCounter c k).Fits :=
  State.Fits.setRegion ((((h.readReports c k).accessCounter c).markPoisoned c k).writeBack c k) _ _

/-- The effects of a reading operation leave it in progress until it is over. -/
theorem State.readCounter_op (s : State) (c : CounterOp) (k : ReadKind) :
    (s.readCounter c k).array.op = s.array.op := by
  have reports : (s.readReports c k).array.op = s.array.op := by
    have counts (t : State) (p : Bool) (x : StatCounter) : (t.onlyIf p fun s => s.count x).array = t.array := by
      cases p <;> rfl
    have raises (t : State) (p : Bool) (x : AlertCause) : (t.onlyIf p fun s => s.raise x).array = t.array := by
      cases p <;> rfl
    have logged : ((s.readEvents c k).foldl State.log s).array = s.array := by rw [State.foldl_log_frame]
    simp only [State.readReports, counts, raises, logged]
  have accesses (l : List Nat) : ∀ t : State, (l.foldl State.access t).array.op = t.array.op := by
    induction l with
    | nil => exact fun _ => rfl
    | cons a l ih => exact fun t => ih _
  have marked (t : State) : (t.markPoisoned c k).array.op = t.array.op := by
    unfold State.markPoisoned
    split <;> rfl
  have written (t : State) : (t.writeBack c k).array.op = t.array.op := by
    unfold State.writeBack
    split
    · rfl
    · split
      · rfl
      · split <;> rfl
  calc (s.readCounter c k).array.op
    _ = (((s.readReports c k).accessCounter c).markPoisoned c k).array.op := written _
    _ = ((s.readReports c k).accessCounter c).array.op := marked _
    _ = (s.readReports c k).array.op := accesses _ _
    _ = s.array.op := reports

end

/-! ### Rows: what the meaning of a command makes of sizes that are kept -/

/-- If the command ends in a next state, its sizes are kept. -/
def OutFits (o : Out) : Prop := ∀ t, o = .next t → t.Fits

theorem OutFits.next {t : State} (h : t.Fits) : OutFits (.next t) := by
  rintro _ ⟨⟩
  exact h

theorem OutFits.fault (r : Fault) : OutFits (.fault r) := fun _ h => nomatch h

section
variable {s : State}

theorem takeStep_fits {f : State → Out} (h : s.Fits) (hf : ∀ t : State, t.Fits → OutFits (f t)) :
    OutFits (takeStep s f) := by
  unfold takeStep
  split
  · exact .next h
  · exact hf _ h.settle

theorem takeOutstanding_fits {f : State → State} (h : s.Fits) (hf : (f s).Fits) : OutFits (takeOutstanding s f) := by
  refine .next ?_
  split
  · exact h
  · exact hf

/-! ### The Host Port -/

/-- What the decision commits fits as the state stands (R15). -/
def Decision.fitsOn (d : Decision) (s : State) : Prop :=
  (∀ records, d.commit = .post records → s.hostFifo.length + records.length ≤ Config.hostFifoSlots)
    ∧ ∀ t k p, d.commit = .submit t k p → s.commands.length < Config.commandSlots

theorem Decision.fitsOn_of_nothing {d : Decision} (h : d.commit = .nothing) : d.fitsOn s := by
  simp [Decision.fitsOn, h]

theorem refuse_fitsOn (code : ResponseCode) : (refuse code).fitsOn s := Decision.fitsOn_of_nothing rfl

theorem decision_fitsOn (op : Opcode) (body : List Byte) (crc : Byte) (own : Decision) (h : own.fitsOn s) :
    (decision s op body crc own).fitsOn s := by
  unfold decision
  split
  · exact refuse_fitsOn _
  · split
    · exact refuse_fitsOn _
    · exact h

theorem State.Fits.decided (h : s.Fits) (op : Opcode) (d : Decision) (hd : d.fitsOn s) : (s.decided op d).Fits := by
  obtain ⟨code, body, c⟩ := d
  refine { h with commitFits := ?_ }
  cases c with
  | post records => exact decide_eq_true (hd.1 records rfl)
  | submit t k p => exact decide_eq_true (hd.2 t k p rfl)
  | _ => rfl

theorem State.Fits.respond (h : s.Fits) (op : Opcode) (d : Decision) (hd : d.fitsOn s) : (s.respond op d).Fits := by
  unfold State.respond
  dsimp only
  split
  · exact (h.decided op d hd).hostError _ _
  · exact h.decided op d hd

theorem request_fits (h : s.Fits) (op : Opcode) (body : List Byte) (crc : Byte) {own : State → Decision}
    (hown : ∀ t, (own t).fitsOn t) : OutFits (request op body crc own s) :=
  takeStep_fits h fun t ht => by
    split
    · exact .next (ht.respond op _ (decision_fitsOn _ _ _ _ (hown t)))
    · exact .next ht

theorem writeDecision_fitsOn (index : Byte) (value : Word) : (writeDecision index value).fitsOn s := by
  unfold writeDecision
  split
  · split
    · simp [Decision.fitsOn, accept]
    · exact refuse_fitsOn _
  · exact refuse_fitsOn _

theorem registerWrite_fits (h : s.Fits) (index : Byte) (value : Word) (crc : Byte) :
    OutFits (registerWrite index value crc s) :=
  request_fits h _ _ _ fun _ => writeDecision_fitsOn index value

theorem postDecision_fitsOn (records : List UpdateRecord) : (postDecision s records).fitsOn s := by
  unfold postDecision
  split
  · split
    · simpa [Decision.fitsOn, accept] using ‹_ ≤ _›
    · exact refuse_fitsOn _
  · exact refuse_fitsOn _

theorem submitDecision_fitsOn (ticket kind : Byte) (params : BitVec 96) :
    (submitDecision s ticket kind params).fitsOn s := by
  unfold submitDecision
  split
  · exact refuse_fitsOn _
  · split
    · split
      · simpa [Decision.fitsOn, accept] using ‹_ < _›
      · exact refuse_fitsOn _
    · exact refuse_fitsOn _

theorem readoutDecision_fitsOn (m : Byte) : (readoutDecision s m).fitsOn s := by
  unfold readoutDecision
  split
  · exact refuse_fitsOn _
  · split
    · exact refuse_fitsOn _
    · simp [Decision.fitsOn, accept]

theorem execStatus_fits (h : s.Fits) (crc : Byte) : OutFits (execStatus crc s) := by
  unfold execStatus
  exact request_fits h _ _ _ fun t => Decision.fitsOn_of_nothing rfl

theorem execRegRead_fits (h : s.Fits) (index crc : Byte) : OutFits (execRegRead index crc s) := by
  unfold execRegRead
  refine request_fits h _ _ _ fun t => ?_
  split
  · exact Decision.fitsOn_of_nothing rfl
  · exact refuse_fitsOn _

theorem execTakeCompletion_fits (h : s.Fits) (crc : Byte) : OutFits (execTakeCompletion crc s) := by
  unfold execTakeCompletion
  refine request_fits h _ _ _ fun t => ?_
  split
  · exact refuse_fitsOn _
  · simp [Decision.fitsOn, accept]

theorem execTakeEvent_fits (h : s.Fits) (crc : Byte) : OutFits (execTakeEvent crc s) := by
  unfold execTakeEvent
  refine request_fits h _ _ _ fun t => ?_
  split
  · exact refuse_fitsOn _
  · simp [Decision.fitsOn, accept]

theorem execWake_fits (h : s.Fits) (crc : Byte) : OutFits (execWake crc s) := by
  unfold execWake
  exact request_fits h _ _ _ fun t => by simp [Decision.fitsOn, accept]

theorem execSoftReset_fits (h : s.Fits) (crc : Byte) : OutFits (execSoftReset crc s) := by
  unfold execSoftReset
  refine request_fits h _ _ _ fun t => ?_
  split
  · simp [Decision.fitsOn, accept]
  · simp [Decision.fitsOn]

theorem State.Fits.enterSink (h : s.Fits) (opcode reason : Byte) : (s.enterSink opcode reason).Fits := by
  have sunk : State.Fits { s with host := { s.host with tx := .sink } } := { h with commitFits := rfl }
  exact sunk.hostError _ _

theorem execPostUpdates_fits (h : s.Fits) (records : List UpdateRecord) (crc : Byte) :
    OutFits (execPostUpdates records crc s) := by
  unfold execPostUpdates
  split
  · exact request_fits h _ _ _ fun _ => postDecision_fitsOn records
  · refine takeStep_fits h fun t ht => ?_
    split
    · exact .next (ht.enterSink _ _)
    · exact .next ht

/-- With the port IDLE there is no decided command that has to fit. -/
theorem State.Fits.endTransaction (h : s.Fits) (outcome armed : Bool) : (s.endTransaction outcome armed).Fits :=
  { h with commitFits := rfl }

theorem State.Fits.writeLaneControl (h : s.Fits) (v : Word) : (s.writeLaneControl v).Fits := by
  have written (c : LaneControl) : State.Fits { s with laneControl := c } := { h with }
  unfold State.writeLaneControl
  dsimp only
  split
  · exact (written _).laneReset
  · split
    · exact { h.withLane h.lane.enterSeek with }
    · exact written _

theorem State.Fits.writeRegister (h : s.Fits) (v : Word) (r : Register) : (s.writeRegister v r).Fits := by
  cases r with
  | laneControl => exact h.writeLaneControl v
  | _ => exact { h with }

theorem State.Fits.resumeSweep (h : s.Fits) : s.resumeSweep.Fits := by
  unfold State.resumeSweep
  split
  · exact h
  · rename_i w rest hw
    split
    · exact { h with sweeps := by simpa [hw] using h.sweeps }
    · exact h

theorem State.Fits.wakeUp (h : s.Fits) : s.wakeUp.Fits := by
  have lane : (if s.laneControl.enable then s.lane.enterSeek else s.lane).Fits := by
    split
    · exact h.lane.enterSeek
    · exact h.lane
  unfold State.wakeUp
  split
  · refine State.Fits.raise ?_ _
    exact { h.withLane lane with debt := Nat.zero_le _ }
  · exact h

/-- Every path of work that a soft reset empties is within its size (R170). -/
theorem State.Fits.softReset (h : s.Fits) : s.softReset.Fits := by
  have cleared : s.softCleared.Fits :=
    { h with
      hostFifo := Nat.zero_le _, commands := Nat.zero_le _, completions := Nat.zero_le _, occupancy := Nat.zero_le _
      sweeps := Nat.zero_le _, readout := Nat.zero_le _, stepSlot := fun hs => nomatch hs
      commitFits := State.commitFits_of_le s _ rfl (Nat.zero_le _) (Nat.zero_le _) h.commitFits }
  have logged (e : Event) := cleared.log e
  have restarted (l : Lane) (b : Bool) : (l.afterSoftReset b).Fits := { l.restart_fits b with }
  exact { (logged _).withLane (restarted _ _) with }

/-- The decided command finds room for what it commits (R15). -/
theorem State.Fits.commit (h : s.Fits) (op : Opcode) (d : Decision) (ht : s.host.tx = .response op d) :
    ((s.commit d.commit).endTransaction (responseIsError d.code) d.commit.leavesArmed).Fits := by
  have fits := h.commitFits
  obtain ⟨code, body, c⟩ := d
  cases c with
  | nothing | arm => exact h.endTransaction _ _
  | writeRegister r v => exact (h.writeRegister v r).endTransaction _ _
  | post records =>
    simp only [State.commitFits, ht, decide_eq_true_eq] at fits
    exact { h with hostFifo := by simpa [State.commit] using fits, commitFits := rfl }
  | submit t k p =>
    simp only [State.commitFits, ht, decide_eq_true_eq] at fits
    exact { h with commands := by simpa [State.commit] using fits, commitFits := rfl }
  | takeCompletion =>
    exact { h with completions := (List.tail_sublist _).length_le.trans h.completions, commitFits := rfl }
  | takeReadout n =>
    have taken : State.Fits { s with readout := s.readout.drop n } :=
      have drop : (s.readout.drop n).length ≤ s.readout.length := by simp
      { h with readout := drop.trans h.readout, stepSlot := fun hs => drop.trans_lt (h.stepSlot hs) }
    exact taken.resumeSweep.endTransaction _ _
  | takeEvent => exact { h with eventLog := (List.tail_sublist _).length_le.trans h.eventLog, commitFits := rfl }
  | wake => exact h.wakeUp.endTransaction _ _
  | softReset => exact h.softReset.endTransaction _ _

theorem execCleanEnd_fits (h : s.Fits) : OutFits (execCleanEnd s) :=
  takeStep_fits h fun t ht => by
    split
    · exact .next (ht.commit _ _ ‹_›)
    all_goals exact .next ht

theorem execEarlyEnd_fits (h : s.Fits) (op : Opcode) : OutFits (execEarlyEnd op s) :=
  takeStep_fits h fun t ht => by
    split
    · exact .next ((ht.hostError _ _).endTransaction _ _)
    · exact .next ((ht.hostError _ _).endTransaction _ _)
    · split
      · exact .next (ht.endTransaction _ _)
      · exact .next ((ht.hostError _ _).endTransaction _ _)
    all_goals exact .next ht

theorem execSink_fits (h : s.Fits) (cause : SinkCause) : OutFits (execSink cause s) :=
  takeStep_fits h fun t ht => by
    split
    · split
      · split
        · exact .next ht
        · exact .next (ht.enterSink _ _)
      · split
        · exact .next ht
        · exact .next (ht.enterSink _ _)
    · exact .next ht

theorem execSinkEnd_fits (h : s.Fits) : OutFits (execSinkEnd s) :=
  takeStep_fits h fun t ht => by
    split
    · exact .next (ht.endTransaction _ _)
    · exact .next ht

/-- With no decision made there is no command that has to fit. -/
theorem execSselNFall_fits (h : s.Fits) (sckHigh : Bool) : OutFits (execSselNFall sckHigh s) :=
  takeStep_fits h fun t ht => by
    split
    · exact .next { ht with commitFits := rfl }
    · exact .next ht

theorem execIgnoredLowPeriod_fits (h : s.Fits) : OutFits (execIgnoredLowPeriod s) :=
  takeStep_fits h fun t ht => by
    split
    · exact .next { ht with commitFits := rfl }
    · exact .next ht

/-! ### Dispatch (R35) -/

theorem State.Fits.dequeued (h : s.Fits) : s.dequeued.Fits :=
  have tail : s.dequeued.commands.length ≤ s.commands.length := (List.tail_sublist _).length_le
  { h with
    commands := tail.trans h.commands
    commitFits := State.commitFits_of_le s _ rfl le_rfl tail h.commitFits }

theorem dispatch_fits (h : s.Fits) (kind : CommandKind) {take : QueuedCommand → State → State}
    (ht : ∀ (c : QueuedCommand) (t : State), t.Fits → (take c t).Fits) : OutFits (dispatch kind take s) :=
  takeStep_fits h fun t hs => by
    split
    · exact .next hs
    · exact .next (ht _ _ hs.dequeued)

/-- A SWEEP joins the queue only with a free place in it (R128). -/
theorem execSweep_fits (h : s.Fits) : OutFits (execSweep s) :=
  dispatch_fits h _ fun c t ht => by
    dsimp only
    split
    · exact { ht with }
    · rename_i hc
      have room : t.sweeps.length < Config.sweepSlots := by
        simp only [State.sweepCheck] at hc
        split at hc
        · cases hc
        · split at hc
          · cases hc
          · split at hc
            · cases hc
            · omega
      exact { ht with sweeps := by simpa using room }

theorem State.Fits.cancelSweep (h : s.Fits) (ticket : Ticket) (t : Tag) : (s.cancelSweep ticket t).Fits :=
  { h with
    sweeps := by
      refine le_trans ?_ h.sweeps
      rw [State.cancelSweep, List.length_map]
      exact List.length_filter_le _ _ }

theorem State.Fits.startFence (h : s.Fits) (ticket : Ticket) (laneFlag : Bool) : (s.startFence ticket laneFlag).Fits :=
  { (h.sealWhere fun e => laneFlag || e.fromHost).mapPresent
      fun e => if laneFlag || e.fromHost then { e with waits := { e.waits with fence := true } } else e with }

theorem execRetain_fits (h : s.Fits) : OutFits (execRetain s) :=
  dispatch_fits h _ fun c t ht => by
    split
    · exact { ht with }
    · exact { ht.sealWhere fun _ => true with }

/-! ### Grants (R144, R145) -/

theorem grantTo_fits (h : s.Fits) (m : Member) {f : State → State → Out}
    (hf : ∀ t : State, t.Fits → t.nextGrant = some (.member m) →
      OutFits (f t { t with array := { t.array with pointer := m.following } })) : OutFits (grantTo m f s) :=
  takeStep_fits h fun t ht => by
    split
    · exact hf t ht ‹_›
    · exact .next ht

theorem beginOn_fits (c : CounterOp) (op : ArrayOp) (h : (s.startOp op).Fits) : OutFits (beginOn c op s) := by
  unfold beginOn
  split
  · exact .next h
  · exact .fault _

/-- A grant finds no operation in progress, so every slot in use is an entry of the list (R109, R144). -/
theorem State.entries_le_of_grant (h : s.Fits) (g : Grant) (hg : s.nextGrant = some g) :
    s.entries.length ≤ Config.mergeSlots := by
  have ho := s.op_none_of_grant g hg
  simpa [State.occupancy, State.withdrawn, ho] using h.occupancy

/-- A member is granted only what it requests (R145). -/
theorem State.requests_of_grant (s : State) (m : Member) (hg : s.nextGrant = some (.member m)) :
    s.requests m = true := by
  unfold State.nextGrant at hg
  split at hg
  · cases hg
  · split at hg
    · cases hg
    · split at hg
      · cases hg
        exact List.find?_some ‹_›
      · split at hg
        · cases hg
        · split at hg <;> cases hg

/-- A sweep that requests a step has a free slot for its record (R131). -/
theorem State.room_of_sweepRequests (s : State) (h : s.sweepRequests = true) :
    s.readout.length < Config.readoutSlots := by
  unfold State.sweepRequests at h
  split at h
  · cases h
  · simp only [Bool.and_eq_true, decide_eq_true_eq] at h
    exact h.2

theorem State.Fits.withPointer (h : s.Fits) (m : Member) :
    State.Fits { s with array := { s.array with pointer := m } } := { h with }

/-- What leaves the list is withdrawn, so the slots in use are as many as before (R109, R116). -/
theorem State.withdraw_length (s : State) (p : Entry → Bool) :
    (s.withdraw p).entries.length + (s.entries.filter p).length = s.entries.length := by
  rw [State.withdraw_entries, Nat.add_comm]
  exact (List.length_eq_length_filter_add p).symm

theorem pickEligible_length (p : Entry → Bool) (l : List Entry) (q : Entry × List Entry)
    (h : pickEligible p l = some q) : q.2.length + 1 = l.length := by
  induction l generalizing q with
  | nil => cases h
  | cons e l ih =>
    unfold pickEligible at h
    split at h
    · cases h
      rfl
    · obtain ⟨q', hq, rfl⟩ := Option.map_eq_some_iff.1 h
      simp [ih q' hq]

theorem execCommit_fits (h : s.Fits) : OutFits (execCommit s) :=
  grantTo_fits h _ fun t ht hg => by
    dsimp only
    split
    · exact .next ht
    · rename_i e rest hp
      have hl : rest.length + 1 = t.entries.length := pickEligible_length _ _ _ hp
      have he := State.entries_le_of_grant ht _ hg
      have taken := (ht.withPointer (Member.following .commit)).withEntries (l := rest) ((Nat.le_succ _).trans hl.le)
      exact beginOn_fits _ _ (taken.startOp _ (hl.le.trans he) fun c hc => nomatch hc)

theorem State.Fits.withdraw (h : s.Fits) (p : Entry → Bool) : (s.withdraw p).Fits :=
  h.withEntries (List.length_filter_le _ _)

theorem State.Fits.binFails (h : s.Fits) (t : Ticket) (e : Result) : (s.binFails t e).Fits := { h with }

/-- An operation that withdraws the entries it takes from the list begins on the slots that they had. -/
theorem State.Fits.withdraw_startOp (h : s.Fits) (p : Entry → Bool) (op : ArrayOp)
    (hw : op.withdrawn = s.entries.filter p) (he : s.entries.length ≤ Config.mergeSlots)
    (hr : ∀ c, op = .sweepStep c → s.readout.length < Config.readoutSlots) : ((s.withdraw p).startOp op).Fits :=
  (h.withdraw p).startOp op (by rw [hw, s.withdraw_length p]; exact he) hr

theorem execBinRead_fits (h : s.Fits) : OutFits (execBinRead s) :=
  grantTo_fits h _ fun t ht hg => by
    have he := State.entries_le_of_grant ht _ hg
    dsimp only
    split
    · split
      · exact .next ((ht.withPointer _).binFails _ _)
      · exact beginOn_fits _ _ ((ht.withPointer _).withdraw_startOp _ _ rfl he fun c hc => nomatch hc)
    · exact .next ht

theorem execBinWrite_fits (h : s.Fits) : OutFits (execBinWrite s) :=
  grantTo_fits h _ fun t ht hg => by
    have he := State.entries_le_of_grant ht _ hg
    dsimp only
    split
    · split
      · exact .next ((ht.withPointer _).binFails _ _)
      · exact beginOn_fits _ _ ((ht.withPointer _).withdraw_startOp _ _ rfl he fun c hc => nomatch hc)
    · exact .next ht

theorem execSweepStep_fits (h : s.Fits) : OutFits (execSweepStep s) :=
  grantTo_fits h _ fun t ht hg => by
    have he := State.entries_le_of_grant ht _ hg
    have room := t.room_of_sweepRequests (t.requests_of_grant _ hg)
    dsimp only
    split
    · exact .next ht
    · exact beginOn_fits _ _ ((ht.withPointer _).withdraw_startOp _ _ rfl he fun _ _ => room)

theorem execInitStep_fits (h : s.Fits) : OutFits (execInitStep s) :=
  grantTo_fits h _ fun t ht hg => by
    have he := State.entries_le_of_grant ht _ hg
    dsimp only
    split
    · exact beginOn_fits _ _ ((ht.withPointer _).startOp _ he fun c hc => nomatch hc)
    · exact .next ht

theorem execRefresh_fits (h : s.Fits) : OutFits (execRefresh s) :=
  takeStep_fits h fun t ht => by
    split
    · exact .next (ht.startOp _ (State.entries_le_of_grant ht _ ‹_›) fun c hc => nomatch hc)
    · exact .next ht

theorem execPoisonFill_fits (h : s.Fits) : OutFits (execPoisonFill s) :=
  takeStep_fits h fun t ht => by
    split
    · split
      · exact .next (ht.startOp _ (State.entries_le_of_grant ht _ ‹_›) fun c hc => nomatch hc)
      · exact .next ht
    · exact .next ht

/-! ### Completions of operations -/

theorem execCommitCompletion_fits (h : s.Fits) : OutFits (execCommitCompletion s) :=
  takeStep_fits h fun t ht => by
    split
    · exact .next ((ht.readCounter _ _).finishOp _)
    · exact .next ht

theorem State.Fits.withBinUnit (h : s.Fits) (b : BinUnit) : State.Fits { s with binUnit := b } := { h with }

theorem execBinReadCompletion_fits (h : s.Fits) : OutFits (execBinReadCompletion s) :=
  takeStep_fits h fun t ht => by
    split
    · exact .next (((ht.readCounter _ _).withBinUnit _).finishOp _)
    · exact .next ht

theorem execBinWriteCompletion_fits (h : s.Fits) : OutFits (execBinWriteCompletion s) :=
  takeStep_fits h fun t ht => by
    split
    · exact .next ((((ht.accessCounter _).storeCounter _ _).withBinUnit _).finishOp _)
    · exact .next ht

/-- The record of a step takes the slot that was kept for it, and the step is over (R131, R132, R139). -/
theorem State.Fits.stepPlaced (h : s.Fits) (hs : s.stepInProgress = true) (r : ReadoutRecord) {l : List Sweep}
    (hl : l.length ≤ Config.sweepSlots) : (State.endOp { s.placeRecord r with sweeps := l }).Fits :=
  { h.endOp with
    sweeps := hl
    readout := by simpa [State.endOp, State.placeRecord] using h.stepSlot hs
    stepSlot := fun hs => nomatch hs }

theorem execSweepStepCompletion_fits (h : s.Fits) : OutFits (execSweepStepCompletion s) :=
  takeStep_fits h fun t ht => by
    split
    · rename_i c w rest hop hw
      have read (k : ReadKind) : (t.readCounter c k).stepInProgress = true := by
        rw [State.stepInProgress, State.readCounter_op, hop]
      refine .next (State.finishOp_fits _ ((ht.readCounter c _).stepPlaced (read _) _ ?_))
      simpa [hw] using ht.sweeps
    · exact .next ht

theorem State.Fits.filled (h : s.Fits) : s.filled.Fits := by
  unfold State.filled
  split
  · split
    · exact h.withController _
    · exact (h.setRegion _ _).withController _
  all_goals exact h

theorem execInitStepCompletion_fits (h : s.Fits) : OutFits (execInitStepCompletion s) :=
  takeStep_fits h fun t ht => by
    split
    · exact .next (((ht.accessCounter _).storeCounter _ _).filled.finishOp _)
    · exact .next ht

theorem execRefreshCompletion_fits (h : s.Fits) : OutFits (execRefreshCompletion s) :=
  takeStep_fits h fun t ht => by
    split
    · have refreshed : State.Fits { t with
          array := { t.array with banks := closedBanks }
          refreshTimer := { t.refreshTimer with debt := t.refreshTimer.debt - 1 } } :=
        { ht with debt := (Nat.sub_le _ _).trans ht.debt }
      exact .next (refreshed.finishOp _)
    · exact .next ht

theorem execPoisonFillCompletion_fits (h : s.Fits) : OutFits (execPoisonFillCompletion s) :=
  takeStep_fits h fun t ht => by
    split
    · refine .next (State.Fits.finishOp ?_ _)
      split
      · exact { ht with }
      · exact { ht with }
    · exact .next ht

/-! ### Completion records and RETAIN (R46, R167) -/

theorem State.Fits.post (h : s.Fits) (c : Completion) (hr : s.completions.length < Config.completionSlots) :
    (s.post c).Fits :=
  { h with completions := by simpa [State.post] using hr }

theorem State.Fits.postFrom (h : s.Fits) (p : Producer) (hr : s.completions.length < Config.completionSlots) :
    (s.postFrom p).Fits := by
  cases p with
  | headSweep t r => exact { h.post _ hr with sweeps := (List.tail_sublist _).length_le.trans h.sweeps }
  | _ => exact { h.post _ hr with }

theorem execCompletionPost_fits (h : s.Fits) : OutFits (execCompletionPost s) :=
  takeStep_fits h fun t ht => by
    split
    · split
      · exact .next (ht.postFrom _ ‹_›)
      · exact .next ht
    · exact .next ht

theorem State.Fits.enterRetain (h : s.Fits) (t : Ticket) (hr : s.completions.length < Config.completionSlots) :
    (s.enterRetain t).Fits :=
  { (h.post (plainCompletion t .ok) hr).withLane (l := s.lane.atRetain) { h.lane.endStall.enterOff with } with }

theorem execEnterRetain_fits (h : s.Fits) : OutFits (execEnterRetain s) :=
  takeStep_fits h fun t ht => by
    split
    · split
      · rename_i hm
        have room : t.completions.length < Config.completionSlots := by
          simp only [State.mayRetain, Bool.and_eq_true, decide_eq_true_eq] at hm
          obtain ⟨⟨⟨-, hroom⟩, -⟩, -⟩ := hm
          exact hroom
        exact .next (ht.enterRetain _ room)
      · exact .next ht
    all_goals exact .next ht

/-! ### Time, the return channel and the resets -/

theorem State.Fits.stallTick (h : s.Fits) : s.stallTick.Fits := by
  unfold State.stallTick
  split
  · exact h.withLane h.lane.endStall
  · dsimp only
    split
    · exact { h with }
    · exact { h with }

theorem State.Fits.tick (h : s.Fits) : s.tick.Fits := by
  have counted (t : State) (ht : t.Fits) : t.lingerCount.refreshCount.laneCount.initCount.Fits := by
    rw [State.initCount_eq, State.laneCount_eq]
    exact { ht with }
  have advanced : State.Fits { s with
      timebase := { s.timebase with count := s.timebase.count + 1, tickDivider := s.timebase.tbDiv } } := { h with }
  unfold State.tick
  split
  · exact h
  · exact counted _ advanced.stallTick

theorem execReturnMessage_fits (h : s.Fits) : OutFits (execReturnMessage s) :=
  takeStep_fits h fun t ht => by
    split
    · rename_i m rest hl hq
      have shorter : rest.length ≤ Config.returnSlots :=
        (Nat.le_succ _).trans (by simpa [hq] using ht.returnQueue)
      exact .next (ht.withLane { ht.lane with returnQueue := shorter })
    all_goals exact .next ht

theorem State.inReset_fits (s : State) (obligation : Bool) : (s.inReset obligation).Fits :=
  { hostFifo := Nat.zero_le _, commands := Nat.zero_le _, completions := Nat.zero_le _, buffer := Nat.zero_le _
    returnQueue := Nat.zero_le _, occupancy := Nat.zero_le _, sweeps := Nat.zero_le _, readout := Nat.zero_le _
    eventLog := Nat.zero_le _, debt := Nat.zero_le _, commitFits := rfl, stepSlot := fun hs => nomatch hs }

theorem execResetRelease_fits (h : s.Fits) : OutFits (execResetRelease s) := by
  unfold execResetRelease
  split
  · exact .next { h with }
  · exact .next h

/-! ### Every step -/

/-- Every command keeps every queue, list and count within its size. -/
theorem exec_fits (c : Instr) (h : s.Fits) : OutFits (exec c s) := by
  cases c with
  | sselNFall sckHigh => exact execSselNFall_fits h sckHigh
  | status crc => exact execStatus_fits h crc
  | regRead index crc => exact execRegRead_fits h index crc
  | regWrite | trimUp | trimDown | laneReset | laneEnable | alertClear | eventStatus | statisticsCounterClear
  | regionStatus | clearCount | eccInject => exact registerWrite_fits h _ _ _
  | postUpdates records crc => exact execPostUpdates_fits h records crc
  | submit ticket kind params crc => exact request_fits h _ _ _ fun t => submitDecision_fitsOn _ _ _
  | takeCompletion crc => exact execTakeCompletion_fits h crc
  | takeReadout m crc => exact request_fits h _ _ _ fun t => readoutDecision_fitsOn m
  | takeEvent crc => exact execTakeEvent_fits h crc
  | wake crc => exact execWake_fits h crc
  | softReset crc => exact execSoftReset_fits h crc
  | earlyEnd op => exact execEarlyEnd_fits h op
  | sink cause => exact execSink_fits h cause
  | define | init | adopt | retire => exact dispatch_fits h _ fun c t ht => ht.takeRegionCommand _
  | readBin | writeBin => exact dispatch_fits h _ fun c t ht => ht.withBinUnit _
  | sweep => exact execSweep_fits h
  | cancelSweep => exact dispatch_fits h _ fun c t ht => ht.cancelSweep _ _
  | fence => exact dispatch_fits h _ fun c t ht => ht.startFence _ _
  | retain => exact execRetain_fits h
  | updateAcceptance => exact takeStep_fits h fun t ht => .next (ht.offers _ _)
  | markerRegistration => exact takeOutstanding_fits h h.markRecord
  | commit => exact execCommit_fits h
  | commitCompletion => exact execCommitCompletion_fits h
  | binRead => exact execBinRead_fits h
  | binReadCompletion => exact execBinReadCompletion_fits h
  | binWrite => exact execBinWrite_fits h
  | binWriteCompletion => exact execBinWriteCompletion_fits h
  | sweepStep => exact execSweepStep_fits h
  | sweepStepCompletion => exact execSweepStepCompletion_fits h
  | terminalRecord => exact takeOutstanding_fits h h.terminalRecord
  | initStep => exact execInitStep_fits h
  | initStepCompletion => exact execInitStepCompletion_fits h
  | refresh => exact execRefresh_fits h
  | refreshCompletion => exact execRefreshCompletion_fits h
  | poisonFill => exact execPoisonFill_fits h
  | poisonFillCompletion => exact execPoisonFillCompletion_fits h
  | completionPost => exact execCompletionPost_fits h
  | dataFrame samples | trainingFrame samples => exact takeStep_fits h fun t ht => .next (ht.lclkEdges samples)
  | returnMessage => exact execReturnMessage_fits h
  | timebaseTick => exact takeStep_fits h fun t ht => .next ht.tick
  | lingerTick => exact takeOutstanding_fits h h.lingerTick
  | refreshDue => exact takeOutstanding_fits h h.refreshDue
  | seekRetrainRepeat => exact takeOutstanding_fits h h.seekRepeat
  | trainTimeout => exact takeOutstanding_fits h h.trainTimeout
  | laneStall => exact takeOutstanding_fits h h.stallReport
  | powerOnReset | pinReset => exact .next (s.inReset_fits _)
  | resetRelease => exact execResetRelease_fits h
  | endOfInitialisation => exact takeOutstanding_fits h h.endOfInitialisation
  | enterRetain => exact execEnterRetain_fits h
  | reservedRecord => exact takeOutstanding_fits h h.reservedRecord
  | sweepStart => exact takeOutstanding_fits h h.sweepStart
  | cleanEnd => exact execCleanEnd_fits h
  | sinkEnd => exact execSinkEnd_fits h
  | ignoredLowPeriod => exact execIgnoredLowPeriod_fits h
  | padRecord => exact takeOutstanding_fits h h.padRecord

end

/-- Settles O56: a step is the front command on the state with the queue's rest, and every command keeps the sizes. -/
theorem stepsKeepTheCapacities : Obligations.StepsKeepTheCapacities := by
  intro s t hs hstep
  rw [State.withinCapacity_iff] at *
  unfold step at hstep
  split at hstep
  · exact OutFits.next hs t hstep
  · rename_i c rest _
    have queued : State.Fits { s with pending := rest } := { hs with }
    exact exec_fits c queued t hstep

end Sys2Proof.Machine
end

section
/-! SUPPORT. A transaction of the Host Port: what a request comes to at its decision point, what its end leaves, and the
status byte (R5 to R18). -/

namespace Sys2Proof.Machine

/-! ### The status byte (R9) -/

theorem getLsbD_ofBits (b7 b6 b5 b4 b3 b2 b1 b0 : Bool) :
    let b : Byte := bit b7 ++ bit b6 ++ bit b5 ++ bit b4 ++ bit b3 ++ bit b2 ++ bit b1 ++ bit b0
    b.getLsbD 7 = b7 ∧ b.getLsbD 6 = b6 ∧ b.getLsbD 5 = b5 ∧ b.getLsbD 4 = b4 ∧ b.getLsbD 3 = b3
      ∧ b.getLsbD 2 = b2 ∧ b.getLsbD 1 = b1 ∧ b.getLsbD 0 = b0 := by
  revert b7 b6 b5 b4 b3 b2 b1 b0
  decide

/-- ALERT_N is active while some cause and its enable are both 1 (R157). -/
theorem alertActive_iff (s : State) :
    alertActive s = true
      ↔ ∃ k : Fin 12, (alertRaw s).getLsbD k = true ∧ s.alerts.enable.getLsbD k = true := by
  rw [alertActive, bne_iff_ne]
  constructor
  · intro h
    by_contra hc
    refine h (BitVec.eq_of_getLsbD_eq fun i hi => ?_)
    have hk := not_and.1 (not_exists.1 hc ⟨i, hi⟩)
    simpa using hk
  · rintro ⟨k, hr, he⟩ h
    have hz := congrArg (fun x => x.getLsbD k) h
    simp only [BitVec.getLsbD_and, hr, he] at hz
    simp at hz

/-- The status byte shows its eight conditions (R9). -/
theorem State.statusBits_statusByte (s : State) : s.statusBits (statusByte s) := by
  obtain ⟨h7, h6, h5, h4, h3, h2, h1, h0⟩ := getLsbD_ofBits (s.power.state ≠ .init) (alertActive s)
    (!s.completions.isEmpty) (!s.readout.isEmpty) (Config.commandSlots ≤ s.commands.length)
    (Config.hostFifoSlots - 3 ≤ s.hostFifo.length) s.host.prevOutcome
    (s.power.state = .retain || s.power.state = .quiescing)
  have nonempty {α : Type} (l : List α) : (!l.isEmpty) = true ↔ 1 ≤ l.length := by
    cases l <;> simp
  unfold State.statusBits statusByte
  rw [h7, h6, h5, h4, h3, h2, h1, h0]
  exact ⟨decide_eq_true_iff, alertActive_iff s, nonempty _, nonempty _, decide_eq_true_iff, decide_eq_true_iff,
    Iff.rfl, by simp⟩

/-! ### A report and the moment after it (R158) -/

/-- With nothing outstanding, settling only ends the moment. -/
theorem State.settle_of_endMoment_settled (s : State) (h : s.endMoment.settled = true) : s.settle = s.endMoment := by
  obtain ⟨hd, hi, hs, ht, ho, hk, -⟩ := s.endMoment.settled_iff.1 h
  have h1 : s.endOfInitialisation = s := by
    simp only [State.endMoment_power] at hi
    simp [State.endOfInitialisation, hi]
  simp only [State.endMoment_due] at hd
  have h2 : s.stallReport = s := by simp [State.stallReport, hd, Due.nothing]
  have h3 : s.lingerTick = s := by simp [State.lingerTick, hd, Due.nothing]
  have h4 : s.refreshDue = s := by simp [State.refreshDue, hd, Due.nothing]
  have h5 : s.seekRepeat = s := by simp [State.seekRepeat, hd, Due.nothing]
  have h6 : s.trainTimeout = s := by simp [State.trainTimeout, hd, Due.nothing]
  simp only [State.settle, s.takeHeads_of_none_due ho hk, h1, h2, h3, h4, h5, h6, s.sweepStart_of_not_due hs,
    s.terminalRecord_of_not_due ht]

/-- A report leaves nothing outstanding but the end of its moment. -/
theorem State.settle_of_reported (s : State) (e : Event) (c : AlertCause) (h : s.settled = true) :
    ((s.log e).raise c).settle = ((s.log e).raise c).endMoment := by
  refine State.settle_of_endMoment_settled _ (Eq.trans ?_ h)
  obtain ⟨-, -, -, -, -, -, hm⟩ := s.settled_iff.1 h
  have ended : s.endMoment = s := by rw [State.endMoment, ← hm]
  calc ((s.log e).raise c).endMoment.settled
    _ = s.endMoment.settled := by rcases s.log_cases e with ⟨-, he⟩ | ⟨-, he⟩ <;> rw [he] <;> rfl
    _ = s.settled := by rw [ended]

/-- The next command after a report finds the moment ended. -/
theorem exec_after_report (s t : State) (e : Event) (a : AlertCause) (h : s.quiet) (ht : t = (s.log e).raise a) :
    t.endMoment.quiet
      ∧ ∀ c, isReset c = false → isOutstanding c = false → exec c t = exec c t.endMoment := by
  have hheld : t.power.held = false := by
    rw [ht, State.raise_power, State.log_power]
    exact h.1
  have hsettle : t.settle = t.endMoment := by
    rw [ht]
    exact s.settle_of_reported e a h.2
  rw [← hsettle]
  exact ⟨t.settle_quiet hheld, fun c hr ho => exec_eq_exec_settle c t hr ho hheld⟩

/-! ### Requests (R13, R14) -/

/-- Every command that puts a request on SDI is that request with checks of its own (R11). -/
theorem exec_of_requestOf (c : Instr) (op : Opcode) (body : List Byte) (crc : Byte)
    (h : requestOf c = some (op, body, crc)) : ∃ own, ∀ s, exec c s = request op body crc own s := by
  have itself (op body crc own) : ∃ own', ∀ s, request op body crc own s = request op body crc own' s :=
    ⟨own, fun _ => rfl⟩
  have write (index value crc) : ∃ own, ∀ s,
      registerWrite index value crc s = request .regWrite (index :: wordBytes value) crc own s := itself _ _ _ _
  cases c with
  | postUpdates records crc' =>
    simp only [requestOf] at h
    split at h
    · rename_i hn
      cases h
      simp only [goodCount, Bool.and_eq_true, decide_eq_true_eq] at hn
      exact ⟨_, fun _ => if_pos hn⟩
    · cases h
  | status | regRead | submit | takeCompletion | takeReadout | takeEvent | wake | softReset =>
    cases h
    dsimp only [exec]
    exact itself _ _ _ _
  | regWrite | trimUp | trimDown | laneReset | laneEnable | alertClear | eventStatus | statisticsCounterClear
  | regionStatus | clearCount | eccInject =>
    cases h
    exact write _ _ _
  | _ => cases h

theorem State.respond_decided (s : State) (op : Opcode) (d : Decision) (h : d.code ≠ .badCrc) :
    s.respond op d = s.decided op d := if_neg h

theorem State.respond_badCrc (s : State) (op : Opcode) (d : Decision) (h : d.code = .badCrc) :
    s.respond op d = (s.decided op d).hostError (opcodeByte op) 2#8 := if_pos h

theorem decision_badCrc (s : State) (op : Opcode) (body : List Byte) (crc : Byte) (own : Decision)
    (h : crc8 (opcodeByte op :: body) ≠ crc) : decision s op body crc own = refuse .badCrc := if_pos h

theorem decision_refused (s : State) (op : Opcode) (body : List Byte) (crc : Byte) (own : Decision)
    (code : ResponseCode) (h : crc8 (opcodeByte op :: body) = crc) (hp : powerRefusal s.power.state op = some code) :
    decision s op body crc own = refuse code := by
  simp [decision, h, hp]

/-! ### The ends of a transaction (R5, R15 to R17) -/

/-- The clean end of a decided request (R15). -/
theorem exec_cleanEnd (s : State) (op : Opcode) (d : Decision) (h : s.quiet) (ht : s.host.tx = .response op d) :
    exec .cleanEnd s
      = .next ((s.commit d.commit).endTransaction (responseIsError d.code) d.commit.leavesArmed) := by
  change execCleanEnd s = _
  rw [execCleanEnd, takeStep_of_quiet s _ h]
  simp only [ht]

/-- A decision that commits nothing leaves nothing but the port's previous outcome and arm (R12, R30). -/
theorem exec_cleanEnd_nothing (s : State) (op : Opcode) (d : Decision) (h : s.quiet) (hd : d.commit = .nothing) :
    exec .cleanEnd (s.decided op d) = .next (s.endTransaction (responseIsError d.code) false) := by
  rw [exec_cleanEnd (s.decided op d) op d h rfl, hd]
  rfl

/-- The early end, by the state of the port (R16, R18). -/
theorem exec_earlyEnd (s : State) (op : Opcode) (h : s.quiet) :
    exec (.earlyEnd op) s = .next (match s.host.tx with
      | .opcode => (s.hostError (opcodeByte op) 1#8).endTransaction true false
      | .request o => (s.hostError (opcodeByte o) 1#8).endTransaction true false
      | .response o d =>
        if d.code = .badCrc then s.endTransaction true false
        else (s.hostError (opcodeByte o) 1#8).endTransaction true false
      | .idle | .sink => s) := by
  change execEarlyEnd op s = _
  rw [execEarlyEnd, takeStep_of_quiet s _ h]
  cases s.host.tx with
  | response o d =>
    dsimp only
    split <;> rfl
  | _ => rfl

/-! ### The decided port under a commit -/

theorem State.log_decided (s : State) (op : Opcode) (d : Decision) (e : Event) :
    (s.decided op d).log e = (s.log e).decided op d := by
  rcases s.log_cases e with ⟨hl, he⟩ | ⟨hl, he⟩ <;> rw [he]
  · exact if_pos hl
  · exact if_neg (Nat.not_lt.2 hl)

/-- A choice that does not rest on the port goes the same way with the port decided. -/
theorem ite_decided {op : Opcode} {d : Decision} {p : Prop} [Decidable p] {a b a' b' : State}
    (ha : a' = a.decided op d) (hb : b' = b.decided op d) :
    (if p then a' else b') = (if p then a else b).decided op d := by
  split
  · exact ha
  · exact hb

theorem State.laneReset_decided (s : State) (op : Opcode) (d : Decision) :
    (s.decided op d).laneReset = s.laneReset.decided op d := by
  have logged (e : Event) := State.log_decided { s with lane := s.lane.restart s.laneControl.enable } op d e
  exact ite_decided (congrArg (State.raise · .laneState) (logged _)) (logged _)

theorem State.writeRegister_decided (s : State) (op : Opcode) (d : Decision) (v : Word) (r : Register) :
    (s.decided op d).writeRegister v r = (s.writeRegister v r).decided op d := by
  cases r with
  | laneControl =>
    have reset := State.laneReset_decided { s with
      laneControl := { s.laneControl with
        enable := v.getLsbD 0, autoTrain := v.getLsbD 1, trim := writtenTrim s.laneControl.trim v
        errLimit := v.extractLsb' 8 4 } } op d
    exact ite_decided reset (ite_decided rfl rfl)
  | _ => rfl

theorem State.resumeSweep_decided (s : State) (op : Opcode) (d : Decision) :
    (s.decided op d).resumeSweep = s.resumeSweep.decided op d := by
  unfold State.resumeSweep
  cases hw : s.sweeps with
  | nil => simp only [show (s.decided op d).sweeps = [] from hw]
  | cons w rest =>
    simp only [show (s.decided op d).sweeps = w :: rest from hw]
    exact ite_decided rfl rfl

/-- The port's transaction is no part of what a commit reads or changes. -/
theorem State.commit_decided (s : State) (op : Opcode) (d : Decision) (c : Commit) :
    (s.decided op d).commit c = (s.commit c).decided op d := by
  cases c with
  | writeRegister r v => exact s.writeRegister_decided op d v r
  | takeReadout n => exact State.resumeSweep_decided { s with readout := s.readout.drop n } op d
  | wake => exact ite_decided rfl rfl
  | softReset =>
    have logged := State.log_decided s.softCleared op d (s.softCleared.event .softReset .host none 0#16)
    exact congrArg (fun t => { t with
      lane := t.lane.afterSoftReset t.laneControl.enable, host := { t.host with armed := false } }) logged
  | _ => rfl

/-! ### A request and its clean end -/

/-- A request that its power state admits and its own checks decide, with the clean end taken at once (R13, R15). -/
theorem State.carriesOut_of_own {s : State} {c : Instr} {op : Opcode} {body : List Byte} {crc : Byte}
    {own : State → Decision} {code : ResponseCode} {answer : List Byte} {commit : Commit} (h : s.receives c)
    (hq : requestOf c = some (op, body, crc)) (hx : exec c s = request op body crc own s)
    (hp : powerRefusal s.power.state op = none) (hd : own s = { code, body := answer, commit })
    (hc : code ≠ .badCrc) :
    s.carriesOut c op { code, body := answer, commit }
      ((s.commit commit).endTransaction (responseIsError code) commit.leavesArmed) := by
  obtain ⟨hquiet, ht, q, hmem, hcrc⟩ := h
  obtain rfl : (op, body, crc) = q := Option.some.inj (hq.symm.trans hmem)
  refine ⟨?_, ?_⟩
  · rw [hx, request_of_quiet _ _ _ _ _ hquiet ht, decision_admitted _ _ _ _ _ hcrc hp, hd, s.respond_decided op _ hc]
  · rw [exec_cleanEnd (s.decided op _) op _ hquiet rfl, s.commit_decided]
    rfl

/-- In INIT every opcode but STATUS is answered NOT_READY (R14). -/
theorem powerRefusal_init (op : Opcode) (h : op ≠ .status) : powerRefusal .init op = some .notReady := by
  cases op with
  | status => exact absurd rfl h
  | _ => rfl

theorem powerRefusal_run (op : Opcode) : powerRefusal .run op = none := by cases op <;> rfl

/-- Settles O13: the early end state by state. -/
theorem earlyEndDiscardsTheTransaction : Obligations.EarlyEndDiscardsTheTransaction := by
  intro op o d s h
  rw [exec_earlyEnd s op h]
  refine ⟨fun ht => by rw [ht]; rfl, fun ht => by rw [ht]; rfl, fun ht hd => ?_, fun ht hd => ?_⟩
  · simp only [ht, if_neg hd]
    rfl
  · simp only [ht, if_pos hd]

/-- The opcode bytes of R10 are the assigned ones. -/
theorem opcodeByte_of_assigned (b : Byte)
    (h : [0x05#8, 0x10#8, 0x11#8, 0x20#8, 0x30#8, 0x40#8, 0x41#8, 0x42#8, 0x50#8, 0x5A#8].contains b = true) :
    ∃ op, opcodeByte op = b := by
  simp only [List.contains_iff_mem, List.mem_cons, List.not_mem_nil, or_false] at h
  rcases h with rfl | rfl | rfl | rfl | rfl | rfl | rfl | rfl | rfl | rfl
  · exact ⟨.status, rfl⟩
  · exact ⟨.regRead, rfl⟩
  · exact ⟨.regWrite, rfl⟩
  · exact ⟨.postUpdates, rfl⟩
  · exact ⟨.submit, rfl⟩
  · exact ⟨.takeCompletion, rfl⟩
  · exact ⟨.takeReadout, rfl⟩
  · exact ⟨.takeEvent, rfl⟩
  · exact ⟨.wake, rfl⟩
  · exact ⟨.softReset, rfl⟩

/-- Settles O14: SINK at its two causes and at its end, and the low period without a byte. -/
theorem sinkAndShortLowPeriods : Obligations.SinkAndShortLowPeriods := by
  intro b s h
  refine ⟨fun ht hb => ?_, fun ht hb => ?_, fun ht => ?_, fun ht => ?_⟩
  · have unassigned : ¬ [0x05#8, 0x10#8, 0x11#8, 0x20#8, 0x30#8, 0x40#8, 0x41#8, 0x42#8, 0x50#8, 0x5A#8].contains b
        = true := fun hc => by
      obtain ⟨op, hop⟩ := opcodeByte_of_assigned b hc
      exact hb op hop
    change execSink (.badOpcode b) s = _
    rw [execSink, takeStep_of_quiet s _ h, if_pos ht]
    exact if_neg unassigned
  · have bad : ¬ (1 ≤ b.toNat ∧ b.toNat ≤ 4) := by omega
    change execSink (.badCount b) s = _
    rw [execSink, takeStep_of_quiet s _ h, if_pos ht]
    exact if_neg bad
  · change execSinkEnd s = _
    rw [execSinkEnd, takeStep_of_quiet s _ h, if_pos ht]
  · change execIgnoredLowPeriod s = _
    rw [execIgnoredLowPeriod, takeStep_of_quiet s _ h, if_pos ht]

/-- Settles O4: the eight bits are those of the status byte. -/
theorem selectSamplesTheStatusByte : Obligations.SelectSamplesTheStatusByte := by
  intro sckHigh s h ht
  refine ⟨statusByte s, ?_, s.statusBits_statusByte⟩
  change execSselNFall sckHigh s = _
  rw [execSselNFall, takeStep_of_quiet s _ h, if_pos ht]

/-- Settles O7: no power state refuses STATUS, and its body is the status byte and the occupancies. -/
theorem statusReportsOccupancies : Obligations.StatusReportsOccupancies := by
  intro crc s h
  have admitted : powerRefusal s.power.state .status = none := by cases s.power.state <;> rfl
  refine ⟨statusByte s, s.statusBits_statusByte, 
    State.carriesOut_of_own (own := fun s => accept (statusBody s) .nothing) h rfl rfl admitted ?_ (by decide)⟩
  cases hp : s.power.state <;> simp [accept, statusBody, hp, powerStateCode]

/-- Settles O5: the CRC is checked before all else, and neither end commits or reports anything more. -/
theorem badCrcDiscardsTheRequest : Obligations.BadCrcDiscardsTheRequest := by
  intro c op o body crc s h ht hr hc
  obtain ⟨own, hx⟩ := exec_of_requestOf c op body crc hr
  have reported : exec c s = .next ((s.decided op (refuse .badCrc)).hostError (opcodeByte op) 2#8) := by
    rw [hx, request_of_quiet _ _ _ _ _ h ht, decision_badCrc s op body crc (own s) hc, s.respond_badCrc op _ rfl]
  refine ⟨_, rfl, reported, ?_⟩
  generalize hu : ((s.decided op { code := .badCrc, body := [], commit := .nothing }).log
    (s.event .hostFraming .host none (opcodeByte op ++ 2#8))).raise .hostError = t
  have htx : t.host.tx = .response op (refuse .badCrc) := by
    rw [← hu, State.raise_host, State.log_host]
    rfl
  obtain ⟨hquiet, ends⟩ := exec_after_report (s.decided op _) t _ _ h hu.symm
  obtain ⟨code, -⟩ := sdo_response t.host op _ 0 htx
  obtain ⟨-, -, crcByte, -⟩ := sdo_response t.host op _ 1 htx
  refine ⟨?_, ?_, code rfl, crcByte rfl⟩
  · rw [ends _ rfl rfl, exec_cleanEnd _ op _ hquiet htx]
    rfl
  · rw [ends _ rfl rfl, exec_earlyEnd _ o hquiet]
    simp only [State.endMoment_host, htx, refuse, if_true]
    rfl

/-- Settles O6: the power state answers before the command's own checks, and the refusal commits nothing. -/
theorem powerStateRefusesRequests : Obligations.PowerStateRefusesRequests := by
  intro c op body crc code s h ht hr hc hcell
  obtain ⟨own, hx⟩ := exec_of_requestOf c op body crc hr
  have refused : powerRefusal s.power.state op = some code ∧ responseIsError code = true ∧ code ≠ .badCrc := by
    rcases hcell with ⟨hp, hop, rfl⟩ | ⟨hp, hop, rfl⟩ | ⟨hp, hop, rfl⟩
    · rw [hp, powerRefusal_init op hop]
      exact ⟨rfl, rfl, by decide⟩
    · rw [hp]
      rcases hop with rfl | rfl <;> exact ⟨rfl, rfl, by decide⟩
    · rw [hp]
      rcases hop with rfl | rfl | rfl | rfl <;> exact ⟨rfl, rfl, by decide⟩
  obtain ⟨hp, he, hb⟩ := refused
  refine ⟨?_, ?_⟩
  · rw [hx, request_of_quiet _ _ _ _ _ h ht, decision_refused _ _ _ _ _ _ hc hp, s.respond_decided op _ hb]
    rfl
  · rw [exec_cleanEnd_nothing s op _ h rfl, he]

end Sys2Proof.Machine
end

section
/-! SUPPORT. The registers: which index names which (section 11.1), which writes are refused (R172, R173), and what a
write of a read-write register reads back (R22). -/

namespace Sys2Proof.Machine

/-! ### The index map (section 11.1) -/

/-- The index of a register, by the table of section 11.1. -/
def registerIndex : Register → Nat
  | .deviceId => 0x00 | .powerStatus => 0x01 | .timebase => 0x02 | .mergeControl => 0x03
  | .refreshControl => 0x04 | .readoutControl => 0x05 | .holdLimit => 0x06 | .tickCount => 0x07
  | .laneControl => 0x08 | .laneStatus => 0x09
  | .counter .goodFrames => 0x0A | .counter .crcErrors => 0x0B | .counter .formatErrors => 0x0C
  | .counter .seqGaps => 0x0D | .counter .overruns => 0x0E | .counter .retrains => 0x0F
  | .alertRaw => 0x10 | .alertEnable => 0x11 | .alertClear => 0x12 | .eventStatus => 0x13
  | .arrayStatus => 0x18 | .counter .rowHits => 0x19 | .counter .rowMisses => 0x1A
  | .counter .ceCount => 0x1B | .counter .ueCount => 0x1C | .counter .refreshOverruns => 0x1D
  | .eccInject => 0x1E
  | .regionStatus n => 0x20 + n.toNat | .regionDescA n => 0x30 + n.toNat | .regionDescB n => 0x40 + n.toNat
  | .mergeStatus => 0x50 | .queueStatus => 0x51

theorem registerOf_registerIndex (r : Register) : registerOf (BitVec.ofNat 8 (registerIndex r)) = some r := by
  cases r with
  | counter c => cases c <;> rfl
  | regionStatus n => revert n; decide
  | regionDescA n => revert n; decide
  | regionDescB n => revert n; decide
  | _ => rfl

/-- The register of an index is the one whose index it is; the index of a block's register is 16 times the block and the
region (section 11.1). -/
theorem registerIndex_of_registerOf (index : Byte) (r : Register) (h : registerOf index = some r) :
    index.toNat = registerIndex r := by
  have nibbles (block : BitVec 4) (hb : index.extractLsb' 4 4 = block) :
      index.toNat = 16 * block.toNat + (index.extractLsb' 0 4).toNat := by
    rw [← hb]
    simp only [BitVec.extractLsb'_toNat]
    omega
  unfold registerOf at h
  dsimp only at h
  split at h
  case h_30 =>
    split at h
    · cases h
      exact nibbles 2#4 ‹_›
    · split at h
      · cases h
        exact nibbles 3#4 ‹_›
      · split at h
        · cases h
          exact nibbles 4#4 ‹_›
        · cases h
  all_goals
    cases h
    assumption

theorem registerOf_eq_some_iff (index : Byte) (r : Register) :
    registerOf index = some r ↔ index.toNat = registerIndex r :=
  ⟨registerIndex_of_registerOf index r, fun h => by
    rw [← registerOf_registerIndex r, ← h, BitVec.ofNat_toNat, BitVec.setWidth_eq]⟩

theorem registerOf_eq_none_iff (index : Byte) : registerOf index = none
    ↔ (0x14 ≤ index.toNat ∧ index.toNat ≤ 0x17) ∨ index.toNat = 0x1F ∨ 0x52 ≤ index.toNat := by
  revert index
  decide

/-- A REG_READ answers the register's value, or BAD_FIELD where the index names none (R21). -/
theorem exec_regRead (index crc : Byte) (s : State) :
    exec (.regRead index crc) s = request .regRead [index] crc (fun t =>
      (registerOf index).elim (refuse .badField) fun r => accept (wordBytes (readRegister t r)) .nothing) s := by
  cases h : registerOf index <;> simp [exec, execRegRead, h]

/-- Settles O8: the index map, and the decision on a REG_READ for an assigned and for an unassigned index. -/
theorem regReadHasNoSideEffect : Obligations.RegReadHasNoSideEffect := by
  refine ⟨fun index r => ?_, fun index crc s h hp => ?_⟩
  · rw [registerOf_eq_some_iff]
    cases r with
    | counter c => cases c <;> rfl
    | _ => rfl
  · have admitted : powerRefusal s.power.state .regRead = none := by
      cases hs : s.power.state with
      | init => exact absurd hs hp
      | _ => rfl
    have answers {code answer} (hd : ((registerOf index).elim (refuse .badField) fun r =>
        accept (wordBytes (readRegister s r)) .nothing) = { code, body := answer, commit := .nothing }) :=
      State.carriesOut_of_own (code := code) h rfl (exec_regRead index crc s) admitted hd
    refine ⟨fun r hr => answers ?_ (by decide), fun hr => answers ?_ (by decide), registerOf_eq_none_iff index⟩
    · rw [hr]
      rfl
    · rw [hr]
      rfl

/-! ### Checked writes (R172, R173) -/

theorem powerRefusal_of_writable (s : State) (op : Opcode) (h : s.writable) (hop : op ≠ .postUpdates)
    (hw : op ≠ .wake) :
    powerRefusal s.power.state op = none := by
  rcases h with h | h <;> rw [h]
  · exact powerRefusal_run op
  · cases op with
    | postUpdates => exact absurd rfl hop
    | wake => exact absurd rfl hw
    | _ => rfl

/-- The index is unassigned or that of a register that is read-only in its entirety, or a defined field is outside its
range (R172, R173). -/
def WriteRefused (index : Nat) (value : Word) : Prop :=
  index ∈ [0x00, 0x01, 0x07, 0x09, 0x10] ∨ (0x14 ≤ index ∧ index ≤ 0x18) ∨ index = 0x1F ∨ 0x30 ≤ index
    ∨ (index = 0x02 ∧ (fieldOf value 0 13 = 0 ∨ 4096 < fieldOf value 0 13))
    ∨ (index = 0x03 ∧ (16 < fieldOf value 0 5 ∨ fieldOf value 16 8 = 0))
    ∨ (index = 0x04 ∧ fieldOf value 0 6 = 0)
    ∨ (index = 0x05 ∧ (fieldOf value 0 7 = 0 ∨ 64 < fieldOf value 0 7))
    ∨ (index = 0x08 ∧ fieldOf value 8 4 = 0)
    ∨ (index = 0x1E ∧ fieldOf value 0 2 = 3)

theorem writeAccepted_iff (value : Word) (r : Register) :
    writeAccepted value r = true ↔ ¬ WriteRefused (registerIndex r) value := by
  have mode : fieldOf value 0 2 < 2 ^ 2 := BitVec.isLt _
  obtain ⟨index, hi⟩ : ∃ index, index = registerIndex r := ⟨_, rfl⟩
  rw [← hi]
  simp only [WriteRefused, List.mem_cons, List.not_mem_nil, or_false]
  cases r with
  | counter c =>
    cases c <;>
    · simp only [writeAccepted, registerIndex, true_iff] at *
      omega
  | regionStatus n | regionDescA n | regionDescB n =>
    have hn : n.toNat < 2 ^ 4 := n.isLt
    simp only [writeAccepted, registerIndex, true_iff, Bool.false_eq_true, false_iff] at *
    omega
  | _ =>
    simp only [writeAccepted, registerIndex, Bool.and_eq_true, decide_eq_true_eq, true_iff, false_iff,
      Bool.false_eq_true] at *
    omega

/-- The decision on a write is BAD_FIELD exactly for the indices and field values of the tables (R22). -/
theorem writeDecision_of_refused (index : Byte) (value : Word) (h : WriteRefused index.toNat value) :
    writeDecision index value = refuse .badField := by
  unfold writeDecision
  split
  · rename_i r hr
    rw [registerIndex_of_registerOf index r hr] at h
    exact if_neg fun ha => (writeAccepted_iff value r).1 ha h
  · rfl

theorem writeDecision_of_not_refused (index : Byte) (value : Word) (h : ¬ WriteRefused index.toNat value) :
    ∃ r, registerOf index = some r ∧ writeDecision index value = accept [] (.writeRegister r value) := by
  cases hr : registerOf index with
  | none =>
    refine absurd ?_ h
    rcases (registerOf_eq_none_iff index).1 hr with ⟨h1, h2⟩ | h1 | h1
    · exact .inr (.inl ⟨h1, h2.trans (by decide)⟩)
    · exact .inr (.inr (.inl h1))
    · exact .inr (.inr (.inr (.inl ((by decide : 0x30 ≤ 0x52).trans h1))))
  | some r =>
    rw [registerIndex_of_registerOf index r hr] at h
    exact ⟨r, rfl, by simp [writeDecision, hr, (writeAccepted_iff value r).2 h]⟩

theorem State.carriesOut_regWrite {s : State} {index : Byte} {value : Word} {crc : Byte} {code : ResponseCode}
    {commit : Commit} (h : s.receives (.regWrite index value crc)) (hw : s.writable)
    (hd : writeDecision index value = { code, body := [], commit }) (hc : code ≠ .badCrc) :
    s.carriesOut (.regWrite index value crc) .regWrite { code, body := [], commit }
      ((s.commit commit).endTransaction (responseIsError code) commit.leavesArmed) :=
  State.carriesOut_of_own (own := fun _ => writeDecision index value) h rfl rfl
    (powerRefusal_of_writable s .regWrite hw (by decide) (by decide)) hd hc

/-- Settles O17: a clean end commits the write; the checks refuse exactly the indices and the field values of the
tables. -/
theorem registerWritesAreCheckedWhole : Obligations.RegisterWritesAreCheckedWhole := by
  refine ⟨fun op r value body s h ht => exec_cleanEnd s op _ h ht,
    fun index value crc s h hw refused hrefused => ?_⟩
  obtain rfl : refused = WriteRefused index.toNat value := propext hrefused
  refine ⟨fun hr => ?_, fun hr => ?_⟩
  · exact State.carriesOut_regWrite h hw (writeDecision_of_refused index value hr) (by decide)
  · obtain ⟨r, hi, hd⟩ := writeDecision_of_not_refused index value hr
    exact ⟨r, hi, State.carriesOut_regWrite h hw hd (by decide)⟩

/-! ### Reading back (R22) -/

/-- A field that takes the written bits of its place reads back as those bits of the written value. -/
theorem field_extractLsb' (v : Word) (p w : Nat) :
    field (v.extractLsb' p w) p = v &&& (BitVec.ofNat 32 (2 ^ w - 1) <<< p) := by
  refine BitVec.eq_of_getLsbD_eq fun i hi => ?_
  rw [field]
  simp only [BitVec.getLsbD_and, BitVec.getLsbD_shiftLeft, BitVec.getLsbD_setWidth, BitVec.truncate_eq_setWidth,
    BitVec.getLsbD_extractLsb', BitVec.getLsbD_ofNat, Nat.testBit_two_pow_sub_one, hi, decide_true, Bool.true_and]
  by_cases hp : i < p
  · simp [hp]
  · rw [Nat.add_sub_cancel' (Nat.le_of_not_lt hp)]
    simp [hp, show i - p < 32 by omega, Bool.and_comm]

/-- Settles O18: the write is accepted, replaces the fields, and each field reads back the bits written to its place. -/
theorem configurationWritesReplaceTheirFields : Obligations.ConfigurationWritesReplaceTheirFields := by
  intro value crc s hw
  have accepts (index : Byte) (r : Register) (hr : registerOf index = some r) (ha : writeAccepted value r = true)
      (h : s.receives (.regWrite index value crc)) :
      s.carriesOut (.regWrite index value crc) .regWrite
        { code := .accept, body := [], commit := .writeRegister r value } (s.writeRegister value r).endedClean :=
    State.carriesOut_regWrite h hw (by simp [writeDecision, hr, ha, accept]) (by decide)
  have between {p q : Prop} [Decidable p] [Decidable q] (hp : p) (hq : q) : (decide p && decide q) = true := by
    simp [hp, hq]
  refine ⟨fun h h1 h2 => ⟨_, rfl, accepts _ .timebase rfl (between h1 h2) h, field_extractLsb' value 0 13⟩,
    fun h h1 h2 => ⟨_, rfl, accepts _ .mergeControl rfl (between h1 h2) h, ?_⟩,
    fun h h1 => ⟨_, rfl, accepts _ .refreshControl rfl (decide_eq_true h1) h, field_extractLsb' value 0 6⟩,
    fun h h1 h2 => ⟨_, rfl, accepts _ .readoutControl rfl (between h1 h2) h, field_extractLsb' value 0 7⟩,
    fun h => ⟨_, rfl, accepts _ .holdLimit rfl rfl h, field_extractLsb' value 0 16⟩,
    fun h => ⟨_, rfl, accepts _ .alertEnable rfl rfl h, field_extractLsb' value 0 12⟩⟩
  calc field (value.extractLsb' 0 5) 0 ||| field (value.extractLsb' 8 4) 8 ||| field (value.extractLsb' 16 8) 16
    _ = value &&& (0x1F#32 ||| 0xF00#32 ||| 0xFF0000#32) := by
      rw [field_extractLsb', field_extractLsb', field_extractLsb', BitVec.and_or_distrib_left,
        BitVec.and_or_distrib_left]
      rfl
    _ = value &&& 0x00FF0F1F#32 := rfl

end Sys2Proof.Machine
end

section
/-! SUPPORT. POST_UPDATES and SUBMIT: their decisions (R23, R25), and the parameter bytes of the queued kinds (R34). -/

namespace Sys2Proof.Machine

/-! ### POST_UPDATES (R23) -/

/-- A POST_UPDATES that the port receives is a request, with a count byte that does not lead to SINK (R17, R23). -/
theorem State.receives_postUpdates {s : State} {records : List UpdateRecord} {crc : Byte}
    (h : s.receives (.postUpdates records crc)) :
    requestOf (.postUpdates records crc) = some (.postUpdates, postBody records, crc)
      ∧ exec (.postUpdates records crc) s
        = request .postUpdates (postBody records) crc (fun t => postDecision t records) s := by
  obtain ⟨-, -, q, hq, -⟩ := h
  simp only [requestOf] at hq ⊢
  split at hq
  · rename_i hn
    rw [if_pos hn]
    simp only [goodCount, Bool.and_eq_true, decide_eq_true_eq] at hn
    exact ⟨rfl, if_pos hn⟩
  · cases hq

theorem State.carriesOut_postUpdates {s : State} {records : List UpdateRecord} {crc : Byte} {code : ResponseCode}
    {commit : Commit} (h : s.receives (.postUpdates records crc)) (hp : s.power.state = .run)
    (hd : postDecision s records = { code, body := [], commit }) (hc : code ≠ .badCrc) :
    s.carriesOut (.postUpdates records crc) .postUpdates { code, body := [], commit }
      ((s.commit commit).endTransaction (responseIsError code) commit.leavesArmed) := by
  obtain ⟨hq, hx⟩ := s.receives_postUpdates h
  exact State.carriesOut_of_own h hq hx (by rw [hp]; rfl) hd hc

theorem postDecision_of_updates (s : State) (records : List UpdateRecord) (h : ∀ r ∈ records, r.type = .update) :
    postDecision s records = if s.hostFifo.length + records.length ≤ Config.hostFifoSlots then
      accept [] (.post (records.map hostRecordOf)) else refuse .full :=
  if_pos (List.all_eq_true.2 fun r hr => decide_eq_true (h r hr))

theorem postDecision_of_other (s : State) (records : List UpdateRecord) (h : ∃ r ∈ records, r.type ≠ .update) :
    postDecision s records = refuse .badField := by
  obtain ⟨r, hr, ht⟩ := h
  exact if_neg fun ha => ht (of_decide_eq_true (List.all_eq_true.1 ha r hr))

/-- Settles O9: the commit at any clean end, and the decision by the types of the records and the room for them. -/
theorem postUpdatesAppendsOrRefuses : Obligations.PostUpdatesAppendsOrRefuses := by
  refine ⟨fun _ => rfl, fun op posted body s h ht => exec_cleanEnd s op _ h ht, fun records crc s h hp => ?_⟩
  refine ⟨fun hu hroom => ⟨_, rfl, ?_⟩, fun ho => ?_, fun hu hfull => ?_⟩
  · exact State.carriesOut_postUpdates h hp ((postDecision_of_updates s records hu).trans (if_pos hroom)) (by decide)
  · exact State.carriesOut_postUpdates h hp (postDecision_of_other s records ho) (by decide)
  · exact State.carriesOut_postUpdates h hp
      ((postDecision_of_updates s records hu).trans (if_neg (Nat.not_le.2 hfull))) (by decide)

/-! ### The parameter bytes (R34) -/

theorem extractLsb'_extractLsb' {w : Nat} (x : BitVec w) (start len inner m : Nat) (h : inner + m ≤ len) :
    (x.extractLsb' start len).extractLsb' inner m = x.extractLsb' (start + inner) m := by
  refine BitVec.eq_of_getLsbD_eq fun i hi => ?_
  simp only [BitVec.getLsbD_extractLsb', show inner + i < len by omega, decide_true, Bool.true_and, Nat.add_assoc]

/-- The parameter bytes travel in order (R25). -/
theorem paramBytes_eq (p : BitVec 96) : paramBytes p = (List.range 12).map (paramByte p) := by
  simp (disch := omega) only [paramBytes, wordBytes, extractLsb'_extractLsb']
  rfl

theorem paramByte_of_paramBytes (p : BitVec 96) (b : Nat → Byte) (h : paramBytes p = (List.range 12).map b) (i : Nat)
    (hi : i < 12) : paramByte p i = b i := by
  rw [paramBytes_eq] at h
  exact List.map_inj_left.1 h i (List.mem_range.2 hi)

/-- The value of a WRITE_BIN is its eight bytes, the high word first (R34). -/
theorem paramValue_eq (p : BitVec 96) :
    paramValue p = paramByte p 3 ++ paramByte p 4 ++ paramByte p 5 ++ paramByte p 6 ++ paramByte p 7 ++ paramByte p 8
      ++ paramByte p 9 ++ paramByte p 10 := by
  have join (start len : Nat) :
      p.extractLsb' (start + 8) len ++ p.extractLsb' start 8 = p.extractLsb' start (len + 8) :=
    BitVec.extractLsb'_append_extractLsb'_eq_extractLsb' rfl
  have j4 : paramByte p 3 ++ paramByte p 4 = p.extractLsb' 56 16 := join 56 8
  have j5 : p.extractLsb' 56 16 ++ paramByte p 5 = p.extractLsb' 48 24 := join 48 16
  have j6 : p.extractLsb' 48 24 ++ paramByte p 6 = p.extractLsb' 40 32 := join 40 24
  have j7 : p.extractLsb' 40 32 ++ paramByte p 7 = p.extractLsb' 32 40 := join 32 32
  have j8 : p.extractLsb' 32 40 ++ paramByte p 8 = p.extractLsb' 24 48 := join 24 40
  have j9 : p.extractLsb' 24 48 ++ paramByte p 9 = p.extractLsb' 16 56 := join 16 48
  have j10 : p.extractLsb' 16 56 ++ paramByte p 10 = p.extractLsb' 8 64 := join 8 56
  rw [paramValue, j4, j5, j6, j7, j8, j9, j10]

/-! ### SUBMIT (R25) -/

/-- The kind bytes of R34. -/
def kindCode : CommandKind → Nat
  | .define => 0x01 | .init => 0x02 | .adopt => 0x03 | .retire => 0x04 | .readBin => 0x10 | .writeBin => 0x11
  | .sweep => 0x20 | .cancelSweep => 0x21 | .fence => 0x30 | .retain => 0x31

theorem kindOfByte_eq_some_iff (kind : Byte) (k : CommandKind) :
    kindOfByte kind = some k ↔ kind.toNat = kindCode k := by
  constructor
  · intro h
    have table : ∀ kind : Byte, ((kindOfByte kind).all fun k => kind.toNat == kindCode k) = true := by decide
    simpa [h] using table kind
  · intro h
    obtain rfl : kind = BitVec.ofNat 8 (kindCode k) := by rw [← h, BitVec.ofNat_toNat, BitVec.setWidth_eq]
    cases k <;> rfl

theorem State.carriesOut_submit {s : State} {ticket kind : Byte} {params : BitVec 96} {crc : Byte} {code : ResponseCode}
    {commit : Commit} (h : s.receives (.submit ticket kind params crc)) (hw : s.writable)
    (hd : submitDecision s ticket kind params = { code, body := [], commit }) (hc : code ≠ .badCrc) :
    s.carriesOut (.submit ticket kind params crc) .submit { code, body := [], commit }
      ((s.commit commit).endTransaction (responseIsError code) commit.leavesArmed) :=
  State.carriesOut_of_own (own := fun t => submitDecision t ticket kind params) h rfl rfl
    (powerRefusal_of_writable s .submit hw (by decide) (by decide)) hd hc

theorem submitDecision_of_good (s : State) (ticket kind : Byte) (params : BitVec 96) (k : CommandKind)
    (hk : kindOfByte kind = some k) (hg : goodParams k params = true) :
    submitDecision s ticket kind params = if s.commands.length < Config.commandSlots then
      accept [] (.submit (ticket.extractLsb' 0 4) k params) else refuse .full := by
  simp [submitDecision, hk, hg]

/-- An unknown kind or a reserved encoding (R25, R34). -/
theorem submitDecision_of_bad (s : State) (ticket kind : Byte) (params : BitVec 96)
    (h : ∀ k, kindOfByte kind = some k → goodParams k params = false) :
    submitDecision s ticket kind params = refuse .badField := by
  unfold submitDecision
  split
  · rfl
  · rw [h _ ‹_›]
    rfl

/-- Settles O10: the commit at any clean end, the places of the parameters, and the decision by kind, encodings and
room. -/
theorem submitQueuesTheCommand : Obligations.SubmitQueuesTheCommand := by
  refine ⟨fun op t k p body s h ht => exec_cleanEnd s op _ h ht, fun p b hb => ?_, ?_⟩
  · have byte := paramByte_of_paramBytes p b hb
    refine ⟨byte, ?_, ?_, ?_, ?_, ?_⟩
    · rw [paramRegion, byte 0 (by decide)]
    · rw [paramHalf, byte 1 (by decide), byte 2 (by decide)]
    · rw [paramHalf, byte 3 (by decide), byte 4 (by decide)]
    · simp (disch := decide) only [paramValue_eq, byte]
    · simp (disch := decide) only [rawDescriptorOf, paramHalf, byte]
  · intro ticket kind params crc s b known good h hw hb hknown hgood
    have byte := paramByte_of_paramBytes params b hb
    have known_iff (k : CommandKind) : known k ↔ kindOfByte kind = some k := by
      rw [hknown, kindOfByte_eq_some_iff]
      cases k <;> rfl
    have good_iff (k : CommandKind) : good k ↔ goodParams k params = true := by
      rw [hgood]
      cases k <;> simp (disch := decide) [goodParams, byte, and_assoc]
    refine ⟨fun k hk hg hroom => ?_, fun hbad => ?_, fun k hk hg hfull => ?_⟩
    · exact State.carriesOut_submit h hw ((submitDecision_of_good s ticket kind params k ((known_iff k).1 hk)
        ((good_iff k).1 hg)).trans (if_pos hroom)) (by decide)
    · refine State.carriesOut_submit h hw (submitDecision_of_bad s ticket kind params fun k hk => ?_) (by decide)
      exact Bool.eq_false_iff.2 fun hg => hbad k ((known_iff k).2 hk) ((good_iff k).2 hg)
    · exact State.carriesOut_submit h hw ((submitDecision_of_good s ticket kind params k ((known_iff k).1 hk)
        ((good_iff k).1 hg)).trans (if_neg (Nat.not_lt.2 hfull))) (by decide)

end Sys2Proof.Machine
end

section
/-! SUPPORT. The three TAKE commands (R26 to R28), and the records that they deliver, byte by byte (R44, R137, R160). -/

namespace Sys2Proof.Machine

/-! ### Layouts -/

theorem getLsbD_completionHead (lane poisoned : Bool) (n : BitVec 2) (ticket : Ticket) :
    let b : Byte := bit lane ++ bit poisoned ++ n ++ ticket
    b.getLsbD 7 = lane ∧ b.getLsbD 6 = poisoned ∧ b.extractLsb' 4 2 = n ∧ b.extractLsb' 0 4 = ticket := by
  revert lane poisoned n ticket
  decide

/-- The bytes of a completion record (R44, R45). -/
theorem completionBytes_layout (c : Completion) : ∃ b0 b1 : Byte,
    completionBytes c = b0 :: b1 :: c.data.flatMap wordBytes
      ∧ (b0.getLsbD 7 = true ↔ c.source = .lane) ∧ b0.getLsbD 6 = c.poisoned
      ∧ (c.data.length ≤ 2 → (b0.extractLsb' 4 2).toNat = c.data.length) ∧ b0.extractLsb' 0 4 = c.ticket
      ∧ b1 = resultByte c.result := by
  obtain ⟨hlane, hpoisoned, hn, hticket⟩ :=
    getLsbD_completionHead (c.source = .lane) c.poisoned (BitVec.ofNat 2 c.data.length) c.ticket
  refine ⟨_, _, rfl, by rw [hlane, decide_eq_true_iff], hpoisoned, fun hl => ?_, hticket, rfl⟩
  rw [hn, BitVec.toNat_ofNat]
  omega

theorem getLsbD_readoutHead (tag : Tag) (poisoned last truncated wide : Bool) :
    let b : Byte := tag ++ bit poisoned ++ bit last ++ bit truncated ++ bit wide
    b.extractLsb' 4 4 = tag ∧ b.getLsbD 3 = poisoned ∧ b.getLsbD 2 = last ∧ b.getLsbD 1 = truncated
      ∧ b.getLsbD 0 = wide := by
  revert tag poisoned last truncated wide
  decide

theorem wordBytes_highWord (v : BitVec 64) : wordBytes (highWord v)
    = [v.extractLsb' 56 8, v.extractLsb' 48 8, v.extractLsb' 40 8, v.extractLsb' 32 8] := by
  simp (disch := omega) only [wordBytes, highWord, extractLsb'_extractLsb', Nat.reduceAdd]

theorem wordBytes_lowWord (v : BitVec 64) : wordBytes (lowWord v)
    = [v.extractLsb' 24 8, v.extractLsb' 16 8, v.extractLsb' 8 8, v.extractLsb' 0 8] := by
  simp (disch := omega) only [wordBytes, lowWord, extractLsb'_extractLsb', Nat.reduceAdd]

theorem getLsbD_eventHead (source : BitVec 3) (present : Bool) :
    let b : Byte := source ++ 0#3 ++ bit present ++ bit present
    b.extractLsb' 5 3 = source ∧ b.extractLsb' 2 3 = 0#3 ∧ b.getLsbD 1 = present ∧ b.getLsbD 0 = present := by
  revert source present
  decide

/-- The bytes of an event record (R160, R161). -/
theorem eventBytes_layout (e : Event) : ∃ (code b1 region : Byte) (bin : BinIx),
    eventBytes e
        = [code, b1, region, bin.extractLsb' 8 8, bin.extractLsb' 0 8, e.detail.extractLsb' 8 8,
          e.detail.extractLsb' 0 8, e.stamp.extractLsb' 8 8, e.stamp.extractLsb' 0 8]
      ∧ code = eventByte e.code ∧ b1.extractLsb' 5 3 = eventSourceBits e.source ∧ b1.extractLsb' 2 3 = 0#3
      ∧ (b1.getLsbD 1 = true ↔ e.place ≠ none) ∧ (b1.getLsbD 0 = true ↔ e.place ≠ none)
      ∧ (∀ r n, e.place = some (r, n) → region.toNat = r.toNat ∧ bin = n)
      ∧ (e.place = none → region = 0#8 ∧ bin = 0#16) := by
  obtain ⟨hs, hz, h1, h0⟩ := getLsbD_eventHead (eventSourceBits e.source) e.place.isSome
  refine ⟨_, _, _, _, rfl, rfl, hs, hz, by rw [h1, Option.isSome_iff_ne_none], by rw [h0, Option.isSome_iff_ne_none],
    fun r n hp => ?_, fun hp => ?_⟩
  · have hr : r.toNat < 2 ^ 4 := r.isLt
    simp only [hp, Option.elim_some, BitVec.truncate_eq_setWidth, BitVec.toNat_setWidth]
    exact ⟨by omega, trivial⟩
  · simp [hp]

/-! ### The decisions (R26 to R28) -/

theorem exec_takeCompletion (crc : Byte) (s : State) :
    exec (.takeCompletion crc) s = request .takeCompletion [] crc (fun t =>
      t.completions.head?.elim (refuse .empty) fun c => accept (completionBytes c) .takeCompletion) s := by
  dsimp only [exec, execTakeCompletion]
  congr 1
  funext t
  cases t.completions <;> rfl

theorem exec_takeEvent (crc : Byte) (s : State) :
    exec (.takeEvent crc) s = request .takeEvent [] crc (fun t =>
      t.eventLog.head?.elim (refuse .empty) fun e => accept (eventBytes e) .takeEvent) s := by
  dsimp only [exec, execTakeEvent]
  congr 1
  funext t
  cases t.eventLog <;> rfl

/-- Out of INIT every power state admits the TAKE commands (R14). -/
theorem powerRefusal_take (s : State) (op : Opcode) (h : s.power.state ≠ .init)
    (hop : op = .takeCompletion ∨ op = .takeReadout ∨ op = .takeEvent) : powerRefusal s.power.state op = none := by
  cases hs : s.power.state with
  | init => exact absurd hs h
  | _ => rcases hop with rfl | rfl | rfl <;> rfl

theorem State.carriesOut_takeReadout {s : State} {m crc : Byte} {code : ResponseCode} {answer : List Byte}
    {commit : Commit} (h : s.receives (.takeReadout m crc)) (hp : s.power.state ≠ .init)
    (hd : readoutDecision s m = { code, body := answer, commit }) (hc : code ≠ .badCrc) :
    s.carriesOut (.takeReadout m crc) .takeReadout { code, body := answer, commit }
      ((s.commit commit).endTransaction (responseIsError code) commit.leavesArmed) :=
  State.carriesOut_of_own (own := fun t => readoutDecision t m) h rfl rfl
    (powerRefusal_take s .takeReadout hp (.inr (.inl rfl))) hd hc

/-- The number asked for is checked first (R27). -/
theorem readoutDecision_of_count (s : State) (m : Byte) (h1 : 1 ≤ m.toNat) (h8 : m.toNat ≤ 8) :
    readoutDecision s m = if s.readout.isEmpty then refuse .empty
      else accept (BitVec.ofNat 8 (Nat.min m.toNat s.readout.length)
          :: (s.readout.take (Nat.min m.toNat s.readout.length)).flatMap readoutBytes)
        (.takeReadout (Nat.min m.toNat s.readout.length)) := by
  have hz : m ≠ 0#8 := by
    rintro rfl
    exact absurd h1 (by decide)
  refine if_neg ?_
  simp [hz, h8]

theorem readoutDecision_of_bad (s : State) (m : Byte) (h : m.toNat = 0 ∨ 8 < m.toNat) :
    readoutDecision s m = refuse .badField := by
  refine if_pos ?_
  rcases h with h | h
  · simp [BitVec.eq_of_toNat_eq (y := 0#8) h]
  · simp [h]

/-- A STALLED head sweep goes on with a free slot, and nothing else changes (R131). -/
theorem State.resumeSweep_eq (s : State) : s.resumeSweep = { s with
    sweeps := match s.sweeps with
      | w :: rest =>
        (if w.state = SweepState.stalled ∧ s.readout.length < 64 then { w with state := .running } else w) :: rest
      | [] => [] } := by
  unfold State.resumeSweep
  cases hw : s.sweeps with
  | nil => simp only [← hw]
  | cons w rest =>
    by_cases h : w.state = .stalled ∧ s.readout.length < 64
    · simp [h, Config.readoutSlots]
    · have hb : ¬ (decide (w.state = .stalled) && decide (s.readout.length < Config.readoutSlots)) = true := by
        rw [Bool.and_eq_true, decide_eq_true_iff, decide_eq_true_iff]
        exact h
      simp only [if_neg h, if_neg hb, ← hw]

theorem State.resumeSweep_of_not_stalled (s : State) (h : ∀ w rest, s.sweeps = w :: rest → w.state ≠ .stalled) :
    s.resumeSweep = s := by
  unfold State.resumeSweep
  split
  · rfl
  · simp [h _ _ ‹_›]

/-- Settles O11: the layouts, the commit at any clean end, and the decision on each TAKE by what there is to take. -/
theorem takesDeliverAndRemove : Obligations.TakesDeliverAndRemove := by
  refine ⟨fun c => ?_, fun r => ?_, fun e => ?_, fun op body c s h ht => ?_,
    fun m crc s hp => ⟨fun h => ?_, fun h => ?_,
    fun h => ?_⟩⟩
  · obtain ⟨b0, b1, hb, hs, hpo, hn, ht, rfl⟩ := completionBytes_layout c
    exact ⟨b0, _, hb, hs, hpo, hn, ht, by cases c.result <;> rfl⟩
  · obtain ⟨htag, hpo, hl, htr, hw⟩ := getLsbD_readoutHead r.tag r.poisoned r.last r.truncated r.wide
    refine ⟨_, ?_, htag, hpo, hl, htr, hw⟩
    simp only [readoutBytes, wordBytes_highWord, wordBytes_lowWord]
    rfl
  · obtain ⟨code, b1, region, bin, hb, rfl, hs, hrest⟩ := eventBytes_layout e
    refine ⟨_, b1, region, bin, hb, by cases e.code <;> rfl, ?_, hrest⟩
    rw [hs]
    cases e.source <;> rfl
  · have ends := exec_cleanEnd s op _ h ht
    refine ⟨?_, ?_, ?_⟩
    · rintro rfl
      rw [ends, List.drop_one]
      rfl
    · rintro rfl
      rw [ends, List.drop_one]
      rfl
    · rintro n rfl hw
      rw [ends]
      exact congrArg (fun t => Host.Outcome.next (State.endTransaction t false false))
        (State.resumeSweep_of_not_stalled { s with readout := s.readout.drop n } hw)
  · have answers {code answer commit} (hd : (s.completions.head?.elim (refuse .empty) fun c =>
        accept (completionBytes c) .takeCompletion) = { code, body := answer, commit }) :=
      State.carriesOut_of_own (code := code) h rfl (exec_takeCompletion crc s)
        (powerRefusal_take s _ hp (.inl rfl)) hd
    refine ⟨fun c rest hc => ?_, fun hc => answers (by rw [hc]; rfl) (by decide)⟩
    obtain rfl : s.completions.tail = rest := by rw [hc]; rfl
    exact answers (by rw [hc]; rfl) (by decide)
  · have answers {code answer commit} (hd : (s.eventLog.head?.elim (refuse .empty) fun e =>
        accept (eventBytes e) .takeEvent) = { code, body := answer, commit }) :=
      State.carriesOut_of_own (code := code) h rfl (exec_takeEvent crc s)
        (powerRefusal_take s _ hp (.inr (.inr rfl))) hd
    refine ⟨fun e rest he => ?_, fun he => answers (by rw [he]; rfl) (by decide)⟩
    obtain rfl : s.eventLog.tail = rest := by rw [he]; rfl
    exact answers (by rw [he]; rfl) (by decide)
  · refine ⟨fun n hn h1 h8 hr => ?_, fun h1 h8 hr => ?_, fun hm => ?_⟩
    · have hd := (readoutDecision_of_count s m h1 h8).trans (if_neg (by simpa using hr))
      rw [← hn] at hd
      have taken := State.carriesOut_takeReadout h hp hd (by decide)
      rw [State.commit, State.resumeSweep_eq] at taken
      exact taken
    · exact State.carriesOut_takeReadout h hp ((readoutDecision_of_count s m h1 h8).trans (if_pos (by simp [hr])))
        (by decide)
    · exact State.carriesOut_takeReadout h hp (readoutDecision_of_bad s m hm) (by decide)

end Sys2Proof.Machine
end

section
/-! SUPPORT. SOFT_RESET: the arm (R30), and what a soft reset leaves of every block (R73, R84, R170). -/

namespace Sys2Proof.Machine

/-! ### The blocks -/

theorem Region.afterSoftReset_eq (r : Region) :
    r.afterSoftReset = { r with state := if r.state = .initializing then .defined else r.state } := by
  unfold Region.afterSoftReset
  split <;> rfl

theorem State.softCleared_region (s : State) (r : RegionIx) : s.softCleared.region r =
    { s.region r with state := if (s.region r).state = .initializing then .defined else (s.region r).state } := by
  rw [← Region.afterSoftReset_eq]
  exact Vector.getElem_map _ _

theorem Wire.abandon_eq (w : Wire) : w.abandon = if w = .low then .low else .high := by cases w <;> rfl

/-- The lane passes through OFF and, if enabled, is in SEEK with one RETRAIN; a message being sent
completes (R52, R73). -/
theorem Lane.afterSoftReset_fields (l : Lane) (enabled : Bool) :
    (l.afterSoftReset enabled).buffer = [] ∧ (l.afterSoftReset enabled).parked = false
      ∧ (l.afterSoftReset enabled).state = (if enabled then .seek else .off)
      ∧ (l.afterSoftReset enabled).returnQueue = (if enabled then [.retrain] else [])
      ∧ (l.afterSoftReset enabled).errors = 0#4 ∧ (l.afterSoftReset enabled).expectedSeq = 0#8
      ∧ (l.afterSoftReset enabled).trimInUse = l.trimInUse
      ∧ (l.afterSoftReset enabled).wire = (if enabled = true ∧ l.wire = Wire.low then Wire.low else Wire.high)
      ∧ (l.afterSoftReset enabled).lret = l.lret := by
  cases enabled
  · exact ⟨rfl, rfl, rfl, rfl, rfl, rfl, rfl, rfl, rfl⟩
  · refine ⟨rfl, rfl, rfl, rfl, rfl, rfl, rfl, ?_, rfl⟩
    simp only [true_and]
    exact l.wire.abandon_eq

/-- The state after a soft reset but for what its report adds: the log, the count of the moment's records, and LOST. -/
def State.softResetWith (s : State) (log : List Event) (moment : Nat) (lost : Byte) : State :=
  { s.softCleared with
    eventLog := log, moment := moment, lost := lost
    lane := s.lane.afterSoftReset s.laneControl.enable
    host := { s.host with armed := false } }

/-- SOFT_RESET is reported in the log, or lost with the log full (R158, R159, R170). -/
theorem State.softReset_eq (s : State) (h : s.moment = 0) :
    (s.eventLog.length < 8 ∧ s.softReset = s.softResetWith (s.eventLog ++
        [{ code := .softReset, source := .host, place := none, detail := 0#16, stamp := 0#16 }]) 1 s.lost)
      ∨ (8 ≤ s.eventLog.length ∧ s.softReset = s.softResetWith s.eventLog s.moment (satInc s.lost)) := by
  have logged := s.softCleared.log_first (s.softCleared.event .softReset .host none 0#16) h
  by_cases hl : s.eventLog.length < 8
  · refine .inl ⟨hl, ?_⟩
    rw [State.softReset, logged.trans (if_pos hl)]
    rfl
  · refine .inr ⟨Nat.le_of_not_lt hl, ?_⟩
    rw [State.softReset, logged.trans (if_neg hl)]
    rfl

/-! ### The two transactions (R30) -/

theorem State.carriesOut_softReset {s : State} {crc : Byte} {code : ResponseCode} {commit : Commit}
    (h : s.receives (.softReset crc)) (hw : s.writable)
    (hd : (if s.host.armed then accept [] .softReset else { code := .armed, body := [], commit := .arm })
      = { code, body := [], commit }) (hc : code ≠ .badCrc) :
    s.carriesOut (.softReset crc) .softReset { code, body := [], commit }
      ((s.commit commit).endTransaction (responseIsError code) commit.leavesArmed) :=
  State.carriesOut_of_own
    (own := fun t => if t.host.armed then accept [] .softReset else { code := .armed, body := [], commit := .arm })
    h rfl rfl (powerRefusal_of_writable s .softReset hw (by decide) (by decide)) hd hc

/-- Settles O12: the arm decides between the two transactions, and the soft reset is read off block by block. -/
theorem secondSoftResetExecutes : Obligations.SecondSoftResetExecutes := by
  intro crc s h hw
  refine ⟨fun ha => ?_, fun ha => ⟨_, State.carriesOut_softReset h hw (by rw [if_pos ha]; rfl) (by decide), ?_⟩⟩
  · exact State.carriesOut_softReset h hw (by rw [if_neg (by simp [ha])]) (by decide)
  · have power : s.softCleared.power = { s.power with state := .run } := by
      rcases hw with hp | hp <;> simp [State.softCleared, hp]
    obtain ⟨⟨-, hsettled⟩, -⟩ := h
    obtain ⟨-, -, -, -, -, -, hm⟩ := s.settled_iff.1 hsettled
    obtain ⟨buffer, parked, state, queue, errors, seq, trim, wire, lret⟩ :=
      s.lane.afterSoftReset_fields s.laneControl.enable
    obtain ⟨log, moment, lost, hs, hshort, hfull⟩ : ∃ log moment lost,
        s.softReset = s.softResetWith log moment lost
        ∧ (s.eventLog.length < 8 → lost = s.lost ∧ log = s.eventLog ++
          [{ code := .softReset, source := .host, place := none, detail := 0#16, stamp := 0#16 }])
        ∧ (8 ≤ s.eventLog.length → log = s.eventLog ∧ lost = satInc s.lost) := by
      rcases s.softReset_eq hm with ⟨hl, he⟩ | ⟨hl, he⟩
      · exact ⟨_, _, _, he, fun _ => ⟨rfl, rfl⟩, fun hf => absurd hl (Nat.not_lt.2 hf)⟩
      · exact ⟨_, _, _, he, fun hf => absurd hf (Nat.not_lt.2 hl), fun _ => ⟨rfl, rfl⟩⟩
    rw [State.commit, hs]
    exact ⟨rfl, rfl, rfl, rfl, rfl, rfl, rfl, buffer, rfl, rfl, rfl, rfl, rfl, rfl, parked, rfl, s.softCleared_region,
      rfl, rfl, rfl, rfl, rfl, rfl, power, rfl, hshort, hfull, state, queue, errors, seq, trim, wire, lret, rfl, rfl, rfl,
      rfl, rfl⟩

end Sys2Proof.Machine
end

section
/-! SUPPORT. Dispatch from the Command Queue: the conditions of R35 read off the state, and that everything that may
happen at a dispatch leaves the commands behind the head as they were, but for their remaining marks (R33). -/

namespace Sys2Proof.Machine

/-! ### The conditions of R35 -/

theorem State.barrier_eq_false_iff (s : State) : s.barrier = false ↔ s.fence = none ∧ s.retain = .none := by
  simp [State.barrier]

theorem CommandKind.isBarrier_iff (k : CommandKind) : k.isBarrier = true ↔ k ∈ [CommandKind.fence, .retain] := by
  cases k <;> decide

theorem State.unitReady_iff (s : State) (k : CommandKind) :
    s.unitReady k = true
      ↔ (k ∈ [CommandKind.define, .init, .adopt, .retire] → s.regionController = .idle)
        ∧ (k ∈ [CommandKind.readBin, .writeBin] → s.binUnit = .idle)
        ∧ (k ∈ [CommandKind.sweep, .cancelSweep] → s.intake = []) := by
  cases k <;> simp [State.unitReady]

/-- Every earlier command has settled: no unit holds a command or a result but for a fill that goes on or has ended
(R38). -/
theorem State.allSettled_iff (s : State) :
    s.allSettled = true
      ↔ (s.binUnit = .idle ∧ s.intake = [] ∧ (∀ a, s.regionController ≠ .awaiting a)
          ∧ ∀ a, s.regionController ≠ .posting a false) ∧ s.barrier = false := by
  cases hc : s.regionController with
  | idle => simp [State.allSettled, hc, and_assoc]
  | awaiting a => simp [State.allSettled, hc]
  | filling t r n => simp [State.allSettled, hc, and_assoc]
  | posting a afterFill => cases afterFill <;> simp [State.allSettled, hc, and_assoc]

/-- The model's test at the head of the queue is R35. -/
theorem State.dispatchable_eq_some_iff (s : State) (k : CommandKind) (c : QueuedCommand) :
    s.dispatchable k = some c ↔ ∃ rest, s.dispatches k c rest := by
  unfold State.dispatchable State.dispatches
  cases s.commands with
  | nil => simp
  | cons d rest =>
    have settled : (!k.isBarrier || s.allSettled) = true ↔ (k ∈ [CommandKind.fence, .retain] → s.allSettled = true) := by
      rw [← CommandKind.isBarrier_iff]
      cases k.isBarrier <;> simp
    simp only [Option.ite_none_right_eq_some, Bool.and_eq_true, decide_eq_true_eq, Bool.not_eq_true', settled,
      State.unitReady_iff, State.barrier_eq_false_iff, State.allSettled_iff, Option.some.injEq, List.cons.injEq]
    constructor
    · rintro ⟨⟨⟨⟨⟨hk, hm⟩, hc, hb, hi⟩, hf, hr⟩, hs⟩, rfl⟩
      exact ⟨rest, ⟨rfl, rfl⟩, hk, hm, hf, hr, hc, hb, hi, fun h => (hs h).1⟩
    · rintro ⟨_, ⟨rfl, rfl⟩, hk, hm, hf, hr, hc, hb, hi, hs⟩
      exact ⟨⟨⟨⟨⟨hk, hm⟩, hc, hb, hi⟩, hf, hr⟩, fun h => ⟨hs h, hf, hr⟩⟩, rfl⟩

theorem State.dequeued_of_dispatches {s : State} {k : CommandKind} {c : QueuedCommand} {rest : List QueuedCommand}
    (h : s.dispatches k c rest) : s.dequeued = { s with commands := rest } := by
  rw [State.dequeued, h.1, List.tail_cons]

/-- A dispatch whose conditions hold: the command leaves the queue and its unit takes it (R35). -/
theorem dispatch_of_dispatches {s : State} {k : CommandKind} {c : QueuedCommand} {rest : List QueuedCommand}
    (take : QueuedCommand → State → State) (h : s.quiet) (hd : s.dispatches k c rest) :
    dispatch k take s = .next (take c { s with commands := rest }) := by
  rw [dispatch_of_quiet k take s h, (s.dispatchable_eq_some_iff k c).2 ⟨rest, hd⟩, State.dequeued_of_dispatches hd]

/-- A dispatch whose conditions do not hold: nothing happens (R37). -/
theorem dispatch_of_not_dispatches {s : State} {k : CommandKind} (take : QueuedCommand → State → State) (h : s.quiet)
    (hd : ∀ c rest, ¬ s.dispatches k c rest) : dispatch k take s = .next s := by
  have stays : s.dispatchable k = none := by
    refine Option.eq_none_iff_forall_ne_some.2 fun c hc => ?_
    obtain ⟨rest, hr⟩ := (s.dispatchable_eq_some_iff k c).1 hc
    exact hd c rest hr
  rw [dispatch_of_quiet k take s h, stays]

/-! ### The queue but for its marks -/

/-- The Command Queue without the remaining marks, which fall with every host record that departs (R33). -/
def State.unmarked (s : State) : List (Ticket × CommandKind × BitVec 96) :=
  s.commands.map fun q => (q.ticket, q.kind, q.params)

theorem State.unmarked_congr {s t : State} (h : t.commands = s.commands) : t.unmarked = s.unmarked := by
  rw [State.unmarked, State.unmarked, h]

theorem State.credit_commands (s : State) : s.credit.commands = s.commands := by
  unfold State.credit
  split <;> rfl

theorem State.laneHandled_commands (s : State) : s.laneHandled.commands = s.commands := by
  unfold State.laneHandled
  dsimp only
  split
  · rw [State.credit_commands]
  · rfl

theorem State.hostDeparted_unmarked (s : State) : s.hostDeparted.unmarked = s.unmarked := by
  simp [State.unmarked, Function.comp_def]

theorem State.depart_unmarked (s : State) (src : Source) : (s.depart src).unmarked = s.unmarked := by
  cases src with
  | lane => exact State.unmarked_congr s.laneHandled_commands
  | host => exact s.hostDeparted_unmarked

theorem State.park_unmarked (s : State) (src : Source) : (s.park src).unmarked = s.unmarked := by
  cases src <;> rfl

theorem State.reject_unmarked (s : State) (src : Source) (r : HostRecord) (reason : Byte) :
    (s.reject src r reason).unmarked = s.unmarked := by
  unfold State.reject
  dsimp only
  split
  · exact State.depart_unmarked _ src
  · exact (State.unmarked_congr (State.log_commands _ _)).trans (State.depart_unmarked _ src)

theorem State.openEntry_unmarked (s : State) (src : Source) (r : HostRecord) (v : Int) :
    (s.openEntry src r v).unmarked = s.unmarked := by
  unfold State.openEntry
  split
  · exact State.depart_unmarked _ src
  · exact s.park_unmarked src

theorem State.place_unmarked (s : State) (src : Source) (r : HostRecord) (v : Int) :
    (s.place src r v).unmarked = s.unmarked := by
  rcases s.place_cases src r v with ⟨_, -, -, he⟩ | ⟨-, he⟩ | ⟨_, -, -, he⟩ <;> rw [he]
  · exact State.depart_unmarked _ src
  · exact s.openEntry_unmarked src r v
  · exact State.openEntry_unmarked _ src r v

theorem State.offer_unmarked (s : State) (src : Source) : (s.offer src).1.unmarked = s.unmarked := by
  rcases s.offer_cases src with ⟨-, he⟩ | ⟨r, reason, -, -, he⟩ | ⟨r, -, -, he⟩ <;> rw [he]
  · exact s.reject_unmarked src r reason
  · exact s.place_unmarked src r _

theorem State.round_unmarked (s : State) (laneReady hostReady : Bool) :
    (s.round laneReady hostReady).state.unmarked = s.unmarked := by
  unfold State.round
  split
  · split
    · exact (State.offer_unmarked _ .host).trans (State.offer_unmarked _ .lane)
    · exact (State.offer_unmarked _ .lane).trans (State.offer_unmarked _ .host)
  · split
    · exact State.offer_unmarked _ .lane
    · split
      · exact State.offer_unmarked _ .host
      · rfl

theorem State.padRecord_commands (s : State) : s.padRecord.commands = s.commands := by
  rcases s.padRecord_cases with ⟨_, _, -, -, he⟩ | he <;> rw [he]
  exact s.laneHandled_commands

theorem State.reservedRecord_commands (s : State) : s.reservedRecord.commands = s.commands := by
  rcases s.reservedRecord_cases with ⟨_, _, -, -, he⟩ | he <;> rw [he]
  simp [s.laneHandled_commands]

theorem State.ownRecords_commands (s : State) (n : Nat) : (s.ownRecords n).commands = s.commands := by
  induction n generalizing s with
  | zero => rfl
  | succ n ih =>
    unfold State.ownRecords
    split
    · rw [ih, State.reservedRecord_commands, State.padRecord_commands]
    · rfl

theorem State.rounds_unmarked (s : State) (laneReady hostReady : Bool) (n : Nat) :
    (s.rounds laneReady hostReady n).unmarked = s.unmarked := by
  induction n generalizing s laneReady hostReady with
  | zero => rfl
  | succ n ih =>
    have after : State.unmarked (if (s.round laneReady hostReady).laneRejected
        then (s.round laneReady hostReady).state.handleOwn else (s.round laneReady hostReady).state) = s.unmarked := by
      split
      · exact (State.unmarked_congr (State.ownRecords_commands _ _)).trans (s.round_unmarked _ _)
      · exact s.round_unmarked _ _
    unfold State.rounds
    dsimp only
    split
    · exact (ih _ _ _).trans after
    · exact after

theorem State.offers_unmarked (s : State) (laneReady hostReady : Bool) :
    (s.offers laneReady hostReady).unmarked = s.unmarked :=
  s.rounds_unmarked _ _ _

/-! ### Region commands leave the queue alone (R80) -/

theorem State.beforeAction_unmarked (s : State) : s.beforeAction.unmarked = s.unmarked := by
  unfold State.beforeAction
  split
  · unfold State.passUnparked
    split
    · exact s.offers_unmarked _ _
    · rfl
  all_goals rfl

theorem State.act_commands (s : State) (c : RegionCommand) : (s.act c).commands = s.commands := by
  cases c with
  | define t r raw =>
    simp only [State.act, State.actDefine]
    split <;> rfl
  | init t r =>
    simp only [State.act, State.actInit]
    split <;> rfl
  | adopt t r =>
    simp only [State.act, State.actAdopt]
    split <;> rfl
  | retire t r =>
    simp only [State.act, State.actRetire]
    split
    · rfl
    · split <;> rfl

theorem State.actionMoment_unmarked (s : State) : s.actionMoment.unmarked = s.unmarked := by
  unfold State.actionMoment
  split
  · exact (State.offers_unmarked _ _ _).trans (State.unmarked_congr (s.act_commands _))
  all_goals rfl

theorem State.takeRegionCommand_unmarked (s : State) (c : RegionCommand) :
    (s.takeRegionCommand c).unmarked = s.unmarked := by
  unfold State.takeRegionCommand
  dsimp only
  split
  · rfl
  · exact (State.actionMoment_unmarked _).trans (State.beforeAction_unmarked _)

/-! ### The dispatch rows -/

/-- Every dispatch row is a dispatch of its kind, and what its unit does with the command leaves the rest of the queue as
it is. -/
theorem exec_dispatch (row : Instr) (k : CommandKind) (h : dispatchedKind row = some k) :
    ∃ take : QueuedCommand → State → State,
      (∀ s, exec row s = dispatch k take s) ∧ ∀ c s, (take c s).unmarked = s.unmarked := by
  cases row <;> simp only [dispatchedKind, Option.some.injEq, reduceCtorEq] at h <;> subst h
  case define => exact ⟨_, execDefine.eq_1, fun _ s => s.takeRegionCommand_unmarked _⟩
  case init => exact ⟨_, execInit.eq_1, fun _ s => s.takeRegionCommand_unmarked _⟩
  case adopt => exact ⟨_, execAdopt.eq_1, fun _ s => s.takeRegionCommand_unmarked _⟩
  case retire => exact ⟨_, execRetire.eq_1, fun _ s => s.takeRegionCommand_unmarked _⟩
  case readBin => exact ⟨_, execReadBin.eq_1, fun _ _ => rfl⟩
  case writeBin => exact ⟨_, execWriteBin.eq_1, fun _ _ => rfl⟩
  case cancelSweep => exact ⟨_, execCancelSweep.eq_1, fun _ _ => rfl⟩
  case fence => exact ⟨_, execFence.eq_1, fun _ _ => rfl⟩
  case sweep =>
    refine ⟨_, execSweep.eq_1, fun c s => ?_⟩
    dsimp only
    split <;> rfl
  case retain =>
    refine ⟨_, execRetain.eq_1, fun c s => ?_⟩
    dsimp only
    split <;> rfl

/-- Settles O22: the row dispatches exactly when R35 holds, and its unit keeps the queue behind the head. -/
theorem dispatchWaitsForItsConditions : Obligations.DispatchWaitsForItsConditions := by
  intro row kind s hq hk
  obtain ⟨take, hrow, keeps⟩ := exec_dispatch row kind hk
  refine ⟨fun hn => ?_, fun c rest hd => ⟨take c { s with commands := rest }, ?_, keeps c _⟩⟩
  · rw [hrow, dispatch_of_not_dispatches take hq hn]
  · rw [hrow, dispatch_of_dispatches take hq hd]

/-! ### FENCE and RETAIN (R40, R42) -/

/-- RETAIN is refused while a sweep is queued or a region is INITIALIZING (R42). -/
theorem State.retainRefused_iff (s : State) :
    s.retainRefused = true ↔ s.sweeps ≠ [] ∨ ∃ r, (s.region r).state = .initializing := by
  have slots : (∃ g ∈ s.regions.toList, g.state = .initializing) ↔ ∃ r, (s.region r).state = .initializing := by
    constructor
    · rintro ⟨g, hg, hs⟩
      obtain ⟨i, hi, rfl⟩ := Vector.mem_iff_getElem.1 (Vector.mem_toList_iff.1 hg)
      exact ⟨BitVec.ofFin ⟨i, hi⟩, hs⟩
    · rintro ⟨r, hr⟩
      exact ⟨s.region r, Vector.mem_toList_iff.2 (Vector.getElem_mem _), hr⟩
  simp only [State.retainRefused, Bool.or_eq_true, List.any_eq_true, decide_eq_true_eq, slots]
  simp

theorem exec_fence_of_dispatches {s : State} {c : QueuedCommand} {rest : List QueuedCommand} (h : s.quiet)
    (hd : s.dispatches .fence c rest) :
    exec .fence s
      = .next (State.startFence { s with commands := rest } c.ticket (paramByte c.params 0 = 1#8)) :=
  dispatch_of_dispatches (fun c s => s.startFence c.ticket (paramByte c.params 0 = 1#8)) h hd

theorem exec_retain_of_dispatches {s : State} {c : QueuedCommand} {rest : List QueuedCommand} (h : s.quiet)
    (hd : s.dispatches .retain c rest) :
    exec .retain s
      = .next (if s.retainRefused then { s with commands := rest, retain := .refused c.ticket }
        else
          { s.sealWhere (fun _ => true) with
            commands := rest, retain := .quiescing c.ticket, power := { s.power with state := .quiescing } }) :=
  dispatch_of_dispatches (fun c s =>
    if s.retainRefused then { s with retain := .refused c.ticket }
    else
      { s.sealWhere (fun _ => true) with
        retain := .quiescing c.ticket, power := { s.power with state := .quiescing } }) h hd

/-- Settles O27: the wait set and the sealing of a FENCE, and both ends of the refusal of a RETAIN. -/
theorem barriersActAtDispatch : Obligations.BarriersActAtDispatch := by
  intro c rest s hq
  refine ⟨fun hd chosen wait hchosen hwait => ?_, fun hd => ⟨fun hr => ?_, fun hw hi => ?_⟩⟩
  · obtain rfl := funext hchosen
    obtain rfl := funext hwait
    rw [exec_fence_of_dispatches hq hd]
    simp only [State.startFence, State.sealWhere, State.mapPresent, List.map_map, Function.comp_def]
  · rw [exec_retain_of_dispatches hq hd, if_pos ((State.retainRefused_iff _).2 hr)]
  · rw [exec_retain_of_dispatches hq hd, if_neg fun h => ?_]
    · rfl
    · rcases (State.retainRefused_iff _).1 h with h | ⟨r, hr⟩
      · exact h hw
      · exact hi r hr

end Sys2Proof.Machine
end

section
/-! SUPPORT. The producers of completion records, and which of them posts next (R46). -/

namespace Sys2Proof.Machine

/-! ### Empty wait sets -/

/-- A marker may post when it is the only one or the earlier-registered, and its wait set is empty (R46, R123). -/
theorem State.readyMarker_eq_some_iff (s : State) (slot : MarkerSlot) :
    s.readyMarker = some slot ↔
      (match slot with
        | .slot0 => s.markers.slot0.isSome ∧ (s.markers.slot1 = none ∨ s.markers.older = .slot0)
        | .slot1 => s.markers.slot1.isSome ∧ (s.markers.slot0 = none ∨ s.markers.older = .slot1))
      ∧ ∀ e ∈ s.present, e.waits.hasMark slot = false := by
  unfold State.readyMarker
  cases s.markers.slot0 with
  | none =>
    cases s.markers.slot1 with
    | none => cases slot <;> simp
    | some v1 => cases slot <;> simp [Option.filter_eq_some_iff]
  | some v0 =>
    cases s.markers.slot1 with
    | none => cases slot <;> simp [Option.filter_eq_some_iff]
    | some v1 => cases slot <;> simp [Option.filter_eq_some_iff]

theorem State.readyMarker_slot0_iff (s : State) :
    s.readyMarker = some .slot0 ↔ s.markers.slot0.isSome ∧ (s.markers.slot1 = none ∨ s.markers.older = .slot0)
      ∧ ∀ e ∈ s.entries ++ s.withdrawn, e.waits.mark0 = false :=
  (s.readyMarker_eq_some_iff .slot0).trans and_assoc

theorem State.readyMarker_slot1_iff (s : State) :
    s.readyMarker = some .slot1 ↔ s.markers.slot1.isSome ∧ (s.markers.slot0 = none ∨ s.markers.older = .slot1)
      ∧ ∀ e ∈ s.entries ++ s.withdrawn, e.waits.mark1 = false :=
  (s.readyMarker_eq_some_iff .slot1).trans and_assoc

theorem State.readyMarker_eq_none (s : State) (h0 : s.readyMarker ≠ some .slot0) (h1 : s.readyMarker ≠ some .slot1) :
    s.readyMarker = none :=
  Option.eq_none_iff_forall_ne_some.2 fun slot => by
    cases slot
    · exact h0
    · exact h1

/-- The fence in progress has an empty wait set (R41). -/
theorem State.readyFence_eq_some_iff (s : State) (t : Ticket) :
    s.readyFence = some t ↔ s.fence = some t ∧ ∀ e ∈ s.entries ++ s.withdrawn, e.waits.fence = false := by
  simp [State.readyFence, State.present, Option.filter_eq_some_iff, or_imp, forall_and]

/-! ### The order of R46 -/

section
variable {s : State}

theorem State.nextProducer_of_marker {slot : MarkerSlot} (h : s.readyMarker = some slot) :
    s.nextProducer = some (.marker slot) := by
  rw [State.nextProducer, h]

theorem State.nextProducer_of_fence {t : Ticket} (hm : s.readyMarker = none) (h : s.readyFence = some t) :
    s.nextProducer = some (.fence t) := by
  rw [State.nextProducer, hm, h]

theorem State.nextProducer_of_binUnit {c : Completion} (hm : s.readyMarker = none) (hf : s.readyFence = none)
    (h : s.binUnit = .posting c) : s.nextProducer = some (.binUnit c) := by
  rw [State.nextProducer, hm, hf, h]

theorem State.nextProducer_of_regionController {c : Completion} {a : Bool} (hm : s.readyMarker = none)
    (hf : s.readyFence = none) (hb : ∀ c, s.binUnit ≠ .posting c) (h : s.regionController = .posting c a) :
    s.nextProducer = some (.regionController c) := by
  unfold State.nextProducer
  rw [hm, hf, h]
  cases hu : s.binUnit with
  | posting c => exact absurd hu (hb c)
  | idle | read | write => rfl

/-- Behind every other producer: the intake, then a refused RETAIN. -/
def State.lastProducer (s : State) : Option Producer :=
  match s.intake, s.retain with
  | c :: _, _ => some (.intake c)
  | [], .refused t => some (.refusedRetain t)
  | [], _ => none

/-- The head sweep, and the producers behind it. -/
def State.sweepProducer (s : State) : Option Producer :=
  match s.sweeps with
  | [] => s.lastProducer
  | w :: _ =>
    match w.state with
    | .posting r => some (.headSweep w.ticket r)
    | .queued | .running | .stalled | .closing => s.lastProducer

/-- Behind the markers, the fence, the Bin Access Unit and the Region Controller comes the head sweep. -/
theorem State.nextProducer_of_units (hm : s.readyMarker = none) (hf : s.readyFence = none)
    (hb : ∀ c, s.binUnit ≠ .posting c) (hc : ∀ c a, s.regionController ≠ .posting c a) :
    s.nextProducer = s.sweepProducer := by
  have sweep : (match s.sweeps.head? with
      | some { ticket := t, state := .posting r, .. } => some (.headSweep t r)
      | _ => s.lastProducer) = s.sweepProducer := by
    unfold State.sweepProducer
    cases s.sweeps with
    | nil => rfl
    | cons w rest =>
      obtain ⟨_, _, _, _, _, _, _, state, _⟩ := w
      cases state <;> rfl
  rw [← sweep, State.nextProducer, hm, hf]
  cases hu : s.binUnit with
  | posting c => exact absurd hu (hb c)
  | idle | read | write =>
    cases hr : s.regionController with
    | posting c a => exact absurd hr (hc c a)
    | idle | awaiting | filling => rfl

theorem State.sweepProducer_of_posting {w : Sweep} {rest : List Sweep} {r : Result} (hs : s.sweeps = w :: rest)
    (hw : w.state = .posting r) : s.sweepProducer = some (.headSweep w.ticket r) := by
  simp only [State.sweepProducer, hs, hw]

theorem State.sweepProducer_of_not_posting (h : ∀ w rest r, s.sweeps = w :: rest → w.state ≠ .posting r) :
    s.sweepProducer = s.lastProducer := by
  unfold State.sweepProducer
  cases hs : s.sweeps with
  | nil => rfl
  | cons w rest =>
    cases hw : w.state with
    | posting r => exact absurd hw (h w rest r hs)
    | queued | running | stalled | closing => simp only [hw]

theorem State.lastProducer_of_intake {c : Completion} {rest : List Completion} (h : s.intake = c :: rest) :
    s.lastProducer = some (.intake c) := by
  rw [State.lastProducer, h]

theorem State.lastProducer_of_refused {t : Ticket} (hi : s.intake = []) (h : s.retain = .refused t) :
    s.lastProducer = some (.refusedRetain t) := by
  rw [State.lastProducer, hi, h]

theorem State.lastProducer_eq_none (hi : s.intake = []) (h : ∀ t, s.retain ≠ .refused t) : s.lastProducer = none := by
  rw [State.lastProducer, hi]
  cases hr : s.retain with
  | refused t => exact absurd hr (h t)
  | none | quiescing | retained => rfl

/-! ### COMPLETION_POST (R47) -/

theorem exec_completionPost_of_quiet (h : s.quiet) :
    exec .completionPost s =
      if s.completions.length < Config.completionSlots then s.nextProducer.elim (.next s) fun p => .next (s.postFrom p)
      else .next s := by
  rw [show exec .completionPost s = execCompletionPost s from rfl, execCompletionPost, takeStep_of_quiet s _ h]
  cases s.nextProducer <;> rfl

theorem exec_completionPost_of_producer {p : Producer} (h : s.quiet) (room : s.completions.length < 8)
    (hp : s.nextProducer = some p) : exec .completionPost s = .next (s.postFrom p) := by
  rw [exec_completionPost_of_quiet h, hp]
  exact if_pos room

theorem exec_completionPost_of_none (h : s.quiet) (hp : s.nextProducer = none) :
    exec .completionPost s = .next s := by
  rw [exec_completionPost_of_quiet h, hp]
  exact ite_self _

theorem exec_completionPost_of_full (h : s.quiet) (full : 8 ≤ s.completions.length) :
    exec .completionPost s = .next s := by
  rw [exec_completionPost_of_quiet h]
  exact if_neg (Nat.not_lt.2 full)

end

/-- Settles O42: the producer that posts, found in the order of R46, and then what its release leaves. -/
theorem completionsPostInOrder : Obligations.CompletionsPostInOrder := by
  intro s none0 none1 noneFence post hq h0 h1 hfence hpost
  rw [← State.readyMarker_slot0_iff] at h0
  rw [← State.readyMarker_slot1_iff] at h1
  obtain rfl : post = s.post := funext hpost
  have noMarker (n0 : none0) (n1 : none1) : s.readyMarker = none := s.readyMarker_eq_none (h0.1 n0) (h1.1 n1)
  have noFence (nf : noneFence) : s.readyFence = none := Option.eq_none_iff_forall_ne_some.2 fun t ht => by
    obtain ⟨present, empty⟩ := (s.readyFence_eq_some_iff t).1 ht
    exact hfence.1 nf ⟨by rw [present]; rfl, empty⟩
  refine ⟨exec_completionPost_of_full hq, fun room => ?_⟩
  have posts {p : Producer} (hp : s.nextProducer = some p) := exec_completionPost_of_producer hq room hp
  refine ⟨fun v n0 hv => ?slot0, fun v _ n1 hv => ?slot1, fun t n0 n1 nf ht => ?fence, fun n0 n1 nf => ?units⟩
  case slot0 =>
    rw [posts (State.nextProducer_of_marker (not_not.1 (mt h0.2 n0)))]
    simp [State.postFrom, Markers.value, Markers.release, hv]
  case slot1 =>
    rw [posts (State.nextProducer_of_marker (not_not.1 (mt h1.2 n1)))]
    simp [State.postFrom, Markers.value, Markers.release, hv]
  case fence =>
    obtain ⟨-, empty⟩ := not_not.1 (mt hfence.2 nf)
    exact posts (State.nextProducer_of_fence (noMarker n0 n1) ((s.readyFence_eq_some_iff t).2 ⟨ht, empty⟩))
  case units =>
    have hm := noMarker n0 n1
    have hf := noFence nf
    refine ⟨fun c hb => posts (State.nextProducer_of_binUnit hm hf hb), fun hb =>
      ⟨fun c a hc => posts (State.nextProducer_of_regionController hm hf hb hc), fun hc => ?_⟩⟩
    have sweep : s.nextProducer = s.sweepProducer := State.nextProducer_of_units hm hf hb hc
    refine ⟨fun w rest r hs hw => ?_, fun hw => ?_⟩
    · rw [posts (sweep.trans (State.sweepProducer_of_posting hs hw)), State.postFrom, hs, List.tail_cons]
    · have last : s.nextProducer = s.lastProducer := sweep.trans (State.sweepProducer_of_not_posting hw)
      refine ⟨fun c rest hi => ?_, fun t hi hr => posts (last.trans (State.lastProducer_of_refused hi hr)),
        fun hi hr => exec_completionPost_of_none hq (last.trans (State.lastProducer_eq_none hi hr))⟩
      rw [posts (last.trans (State.lastProducer_of_intake hi)), State.postFrom, hi, List.tail_cons]

end Sys2Proof.Machine
end

section
/-! SUPPORT. The completions of BIN_READ and SWEEP_STEP: what a reading operation leaves of the state, and the records
that the host is given (R44, R119, R132). -/

namespace Sys2Proof.Machine

/-! ### What a reading operation leaves (R148) -/

/-- The reports of a reading operation change the Event Log, the statistics and the alert causes only (R91, R149 to
R151). -/
theorem State.readReports_frame (s : State) (c : CounterOp) (k : ReadKind) :
    s.readReports c k = { s with
      eventLog := (s.readReports c k).eventLog, moment := (s.readReports c k).moment
      lost := (s.readReports c k).lost, stats := (s.readReports c k).stats
      alerts := (s.readReports c k).alerts } := by
  have counts (t : State) (p : Bool) (x : StatCounter) :
      (t.onlyIf p fun s => s.count x) = { t with stats := (t.onlyIf p fun s => s.count x).stats } := by
    cases p <;> rfl
  have raises (t : State) (p : Bool) (x : AlertCause) :
      (t.onlyIf p fun s => s.raise x) = { t with alerts := (t.onlyIf p fun s => s.raise x).alerts } := by
    cases p <;> rfl
  unfold State.readReports
  dsimp only
  rw [State.foldl_log_frame, counts, counts, counts, raises, raises, raises]

/-- Accesses change the banks and the two row counters only (R143). -/
theorem State.accessCounter_frame (s : State) (c : CounterOp) :
    s.accessCounter c = { s with
      array := { s.array with banks := (s.accessCounter c).array.banks }, stats := (s.accessCounter c).stats } := by
  have accesses (l : List Nat) : ∀ t : State, l.foldl State.access t = { t with
      array := { t.array with banks := (l.foldl State.access t).array.banks }
      stats := (l.foldl State.access t).stats } := by
    induction l with
    | nil => exact fun _ => rfl
    | cons a l ih => exact fun t => ih (t.access a)
  exact accesses _ s

theorem State.markPoisoned_frame (s : State) (c : CounterOp) (k : ReadKind) :
    s.markPoisoned c k = { s with array := (s.markPoisoned c k).array } := by
  unfold State.markPoisoned
  split <;> rfl

theorem State.writeBack_frame (s : State) (c : CounterOp) (k : ReadKind) :
    s.writeBack c k = { s with array := (s.writeBack c k).array } := by
  unfold State.writeBack
  split
  · rfl
  · split
    · rfl
    · split <;> rfl

/-- A reading operation changes the array, its region's flags, the statistics, the alert causes and the Event Log, and
nothing else (R148 to R151). -/
theorem State.readCounter_frame (s : State) (c : CounterOp) (k : ReadKind) :
    s.readCounter c k = { s with
      array := (s.readCounter c k).array, regions := (s.readCounter c k).regions
      stats := (s.readCounter c k).stats, alerts := (s.readCounter c k).alerts
      eventLog := (s.readCounter c k).eventLog, moment := (s.readCounter c k).moment
      lost := (s.readCounter c k).lost } := by
  unfold State.readCounter
  dsimp only
  rw [State.writeBack_frame, State.markPoisoned_frame, State.accessCounter_frame, State.readReports_frame]
  rfl

/-- With nothing parked and no region command waiting, the end of a reading operation is the end of the operation and
no more (R80, R111). -/
theorem State.finishOp_of_read {s t : State} (c : CounterOp) (k : ReadKind) (departed : Bool) (h : s.undisturbed)
    (hl : t.lane = (s.readCounter c k).lane) (hh : t.hostParked = (s.readCounter c k).hostParked)
    (hr : t.regionController = (s.readCounter c k).regionController) : t.finishOp departed = t.endOp := by
  rw [State.readCounter_frame] at hl hh hr
  obtain ⟨⟨lane, host⟩, idle⟩ := h
  exact t.finishOp_plain departed (fun _ => ⟨hl ▸ lane, hh ▸ host⟩) (hr ▸ idle)

/-! ### The counter delivered (R94, R119) -/

theorem applyEntries_value (d : Descriptor) (x : Int) (l : List Entry) :
    (applyEntries d x l).value = l.foldl (fun v e => (applyOperator e.operator d v e.part).value) x :=
  (List.foldl_hom Applied.value fun _ _ => rfl).symm

/-- Entries applied one group after the other give the value of all of them in a row (R94). -/
theorem applyEntries_append_value (d : Descriptor) (x : Int) (l m : List Entry) :
    (applyEntries d x (l ++ m)).value = (applyEntries d (applyEntries d x l).value m).value := by
  simp only [applyEntries_value, List.foldl_append]

/-- The withdrawn entries and then the pinned ones forwarded on top are applied in a row (R119). -/
theorem CounterOp.forwardedValue_eq (c : CounterOp) :
    c.forwardedValue = (applyEntries c.desc c.stored (c.withdrawn ++ c.forwarded)).value :=
  (applyEntries_append_value c.desc c.stored c.withdrawn c.forwarded).symm

/-! ### The two rows -/

theorem exec_binReadCompletion {s : State} {t : Ticket} {c : CounterOp} (h : s.quiet) (hu : s.undisturbed)
    (ho : s.array.op = some (.binRead t c)) :
    exec .binReadCompletion s = .next (State.endOp { s.readCounter c .binRead with
      binUnit := .posting (readCompletion t c.desc.format c.poisoned
        (if c.poisoned then 0#64 else c.desc.format.encode c.forwardedValue)) }) := by
  rw [show exec .binReadCompletion s = execBinReadCompletion s from rfl, execBinReadCompletion,
    takeStep_of_quiet s _ h, ho]
  exact congrArg Host.Outcome.next
    (State.finishOp_of_read c .binRead (!c.withdrawn.isEmpty) hu (by rfl) (by rfl) (by rfl))

theorem exec_sweepStepCompletion {s : State} {c : CounterOp} {w : Sweep} {rest : List Sweep} {k : ReadKind} (h : s.quiet)
    (hu : s.undisturbed) (ho : s.array.op = some (.sweepStep c)) (hs : s.sweeps = w :: rest)
    (hk : k = if w.isDrain then .drain else .snapshot) :
    exec .sweepStepCompletion s = .next (State.endOp { (s.readCounter c k).placeRecord (stepRecord w c) with
      sweeps := w.stepped c ((s.readCounter c k).placeRecord (stepRecord w c)).readout.length :: rest }) := by
  subst hk
  rw [show exec .sweepStepCompletion s = execSweepStepCompletion s from rfl, execSweepStepCompletion,
    takeStep_of_quiet s _ h, ho, hs]
  exact congrArg Host.Outcome.next
    (State.finishOp_of_read c _ (!c.withdrawn.isEmpty) hu (by rfl) (by rfl) (by rfl))

/-- Settles O37: the completion of a BIN_READ, and the readout record of a step with what its sweep becomes. -/
theorem readingOperationsDeliver : Obligations.ReadingOperationsDeliver := by
  rintro c s _ _ _ hq hu rfl rfl rfl
  refine ⟨?binRead, ?sweepStep⟩
  case binRead =>
    rintro ticket _ ho rfl
    refine ⟨_, exec_binReadCompletion hq hu ho, ?_⟩
    rw [CounterOp.forwardedValue_eq]
    rfl
  case sweepStep =>
    rintro w rest _ ho hs rfl
    refine ⟨_, exec_sweepStepCompletion hq hu ho hs rfl, ?_⟩
    rw [State.readCounter_frame]
    refine ⟨rfl, rfl, ?_⟩
    simp [State.placeRecord, Sweep.stepped, Config.readoutSlots]

end Sys2Proof.Machine
end

section
/-! SUPPORT. The steps that a tick causes, one by one, and the order in which the events of a moment stand in the log
(R60, R61, R74, R114, R146, R147, R158, R159, R165). -/

namespace Sys2Proof.Machine

/-! ### The events of a moment (R158, R159) -/

/-- An event stands behind those of a code that is not above its own, and before the first that is. -/
theorem insertEvent_eq (e : Event) (now : List Event) (place : Nat)
    (hbefore : ∀ f ∈ now.take place, eventByte f.code ≤ eventByte e.code)
    (hbehind : ∀ f ∈ (now.drop place).take 1, eventByte e.code < eventByte f.code) :
    insertEvent e now = now.take place ++ e :: now.drop place := by
  induction now generalizing place with
  | nil => simp [insertEvent]
  | cons f now ih =>
    cases place with
    | zero =>
      have hf : eventByte e.code < eventByte f.code := hbehind f (by simp)
      simp [insertEvent, hf]
    | succ place =>
      have hf : ¬ eventByte e.code < eventByte f.code := BitVec.not_lt.2 (hbefore f (by simp))
      have rest := ih place (fun g hg => hbefore g (by simp [hg])) hbehind
      simp [insertEvent, hf, rest]

/-- Two events with different codes take the same places whichever of them comes first. -/
theorem insertEvent_comm (a b : Event) (l : List Event) (h : eventByte a.code ≠ eventByte b.code) :
    insertEvent a (insertEvent b l) = insertEvent b (insertEvent a l) := by
  have lower (a b : Event) (h : eventByte a.code < eventByte b.code) :
      insertEvent a (insertEvent b l) = insertEvent b (insertEvent a l) := by
    have hba : ¬ eventByte b.code < eventByte a.code := BitVec.not_lt.2 (BitVec.le_of_lt h)
    induction l with
    | nil => simp [insertEvent, h, hba]
    | cons f l ih =>
      by_cases hb : eventByte b.code < eventByte f.code
      · have ha : eventByte a.code < eventByte f.code := BitVec.lt_trans h hb
        simp [insertEvent, ha, hb, h, hba]
      · by_cases ha : eventByte a.code < eventByte f.code
        · simp [insertEvent, ha, hb, hba]
        · simp [insertEvent, ha, hb, ih]
  have apart : eventByte a.code < eventByte b.code ∨ eventByte b.code < eventByte a.code := by bv_omega
  rcases apart with h | h
  · exact lower a b h
  · exact (lower b a h).symm

/-- The first places of a list do not rest on what stands behind them. -/
theorem insertEvent_take (e : Event) (l : List Event) (n : Nat) :
    (insertEvent e (l.take n)).take n = (insertEvent e l).take n := by
  induction l generalizing n with
  | nil => simp
  | cons f l ih =>
    cases n with
    | zero => rfl
    | succ n =>
      by_cases h : eventByte e.code < eventByte f.code
      · cases n <;> simp [insertEvent, h, List.take_take]
      · simp [insertEvent, h, ih]

/-- The log with one more event among those of its moment. -/
theorem State.logged_eq (s : State) (e : Event) (before now : List Event) (hl : s.eventLog = before ++ now)
    (hm : s.eventLog.length - s.moment = before.length) : s.logged e = before ++ insertEvent e now := by
  unfold State.logged
  dsimp only
  rw [hm, hl, List.take_left, List.drop_left]

theorem State.log_room (s : State) (e : Event) (h : s.eventLog.length < 8) :
    s.log e = { s with eventLog := s.logged e, moment := s.moment + 1 } := if_pos h

/-- With the log full the last of the moment's events is lost (R159). -/
theorem State.log_full (s : State) (e : Event) (before now : List Event) (hl : s.eventLog = before ++ now)
    (hm : s.eventLog.length - s.moment = before.length) (h : 8 ≤ s.eventLog.length) :
    s.log e = { s with eventLog := before ++ (insertEvent e now).take now.length, lost := satInc s.lost } := by
  have kept : (s.logged e).dropLast = before ++ (insertEvent e now).take now.length := by
    rw [s.logged_eq e before now hl hm, List.dropLast_eq_take, List.take_append]
    simp
  rw [← kept]
  exact if_neg (Nat.not_lt.2 h)

/-- Two events of one moment with different codes leave one log, whichever of them comes first (R158, R159). -/
theorem State.log_comm (s : State) (a b : Event) (h : eventByte a.code ≠ eventByte b.code) :
    (s.log a).log b = (s.log b).log a := by
  obtain ⟨before, now, hl, hm⟩ : ∃ before now, s.eventLog = before ++ now
      ∧ s.eventLog.length - s.moment = before.length :=
    ⟨_, _, (List.take_append_drop (s.eventLog.length - s.moment) s.eventLog).symm, by simp⟩
  have two (a b : Event) : (s.log a).log b =
      if s.eventLog.length < 7 then
        { s with eventLog := before ++ insertEvent b (insertEvent a now), moment := s.moment + 2 }
      else if s.eventLog.length = 7 then
        { s with
          eventLog := before ++ (insertEvent b (insertEvent a now)).take (now.length + 1)
          moment := s.moment + 1, lost := satInc s.lost }
      else
        { s with
          eventLog := before ++ (insertEvent b (insertEvent a now)).take now.length
          lost := satInc (satInc s.lost) } := by
    have hlen : s.eventLog.length = before.length + now.length := by rw [hl, List.length_append]
    by_cases hr : s.eventLog.length < 8
    · rw [s.log_room a hr, s.logged_eq a before now hl hm]
      have hm' : (before ++ insertEvent a now).length - (s.moment + 1) = before.length := by
        rw [List.length_append, insertEvent_length]
        omega
      by_cases h7 : s.eventLog.length < 7
      · rw [if_pos h7, State.log_room _ b (by simp; omega), State.logged_eq _ b before _ rfl hm']
      · rw [if_neg h7, if_pos (by omega), State.log_full _ b before _ rfl hm' (by simp; omega), insertEvent_length]
    · rw [if_neg (by omega), if_neg (by omega), s.log_full a before now hl hm (by omega),
        State.log_full _ b before _ rfl (by simp; omega) (by simp; omega)]
      simp [insertEvent_take]
  rw [two a b, two b a, insertEvent_comm a b now h]

/-! ### The steps of a tick -/

/-- A return message takes a place of the return queue, if there is one (R52). -/
theorem Lane.send_eq (l : Lane) (m : LaneMessage) : l.send m = { l with
    returnQueue := l.returnQueue ++ (if l.returnQueue.length < 8 then [m] else []) } := by
  by_cases h : l.returnQueue.length < 8
  · rw [if_pos h]
    exact if_pos h
  · rw [if_neg h, List.append_nil]
    exact if_neg h

/-- SEEK is entered with one RETRAIN and no errors, and a frame in progress is abandoned (R51, R60). -/
theorem Lane.enterSeek_eq (l : Lane) : l.enterSeek = { l with
    state := .seek, returnQueue := [.retrain], errors := 0#4, seekTimer := 0, training := .none
    wire := if l.wire = Wire.low then Wire.low else Wire.high } := by
  rw [Lane.enterSeek, Wire.abandon_eq]

theorem State.lingerTick_of_due (s : State) (h : s.due.linger = true) : s.lingerTick = { s with
    due := { s.due with linger := false }
    lingerDivider := 0
    entries := s.entries.map fun e => { e with age := if e.age < 15 then e.age + 1 else 15 } } := by
  have age (n : Nat) : Nat.min (n + 1) Config.maxAge = if n < 15 then n + 1 else 15 := by
    change min (n + 1) 15 = _
    split <;> omega
  simp only [State.lingerTick, h, if_true, age]

theorem State.refreshDue_indebted (s : State) (h : s.due.refresh = true) (hd : s.refreshTimer.debt < 6) :
    s.refreshDue = { s with
      due := { s.due with refresh := false }
      refreshTimer := { s.refreshTimer with divider := 0, debt := s.refreshTimer.debt + 1 } } :=
  (if_pos h).trans (if_pos hd)

theorem State.refreshDue_overrun (s : State) (h : s.due.refresh = true) (hd : 6 ≤ s.refreshTimer.debt) :
    s.refreshDue = ((State.count { s with
        due := { s.due with refresh := false }
        refreshTimer := { s.refreshTimer with divider := 0 } } .refreshOverruns).log
      (s.event .refreshOverrun .array none 0#16)).raise .refresh :=
  (if_pos h).trans (if_neg (Nat.not_lt.2 hd))

/-- The event of a stall report: the record that it names, and the reason in its DETAIL (R74). -/
def State.stallEvent (s : State) : StallCause → Event
  | .update region bin => s.event .laneStall .lane (some (region, bin)) 1#16
  | .mark => s.event .laneStall .lane none 2#16

theorem State.stallEvent_code (s : State) (cause : StallCause) : (s.stallEvent cause).code = .laneStall := by
  cases cause <;> rfl

theorem State.stallEvent_congr (s t : State) (cause : StallCause) (h : t.timebase = s.timebase) :
    t.stallEvent cause = s.stallEvent cause := by
  cases cause <;> simp only [State.stallEvent, State.event_congr s t h]

theorem State.stallReport_of_due (s : State) (cause : StallCause) (h : s.due.stall = some cause) :
    s.stallReport
      = (State.log { s with due := { s.due with stall := none } } (s.stallEvent cause)).raise .laneStall := by
  unfold State.stallReport
  rw [h]
  cases cause <;> rfl

theorem State.stallReport_of_none (s : State) (h : s.due.stall = none) : s.stallReport = s := by
  simp only [State.stallReport, h]

theorem State.refreshDue_of_not_due (s : State) (h : s.due.refresh = false) : s.refreshDue = s := by
  simp only [State.refreshDue, h, Bool.false_eq_true, if_false]

theorem State.seekRepeat_of_due (s : State) (h : s.due.seekRepeat = true) : s.seekRepeat = { s with
    due := { s.due with seekRepeat := false }
    lane := { s.lane with
      seekTimer := 0
      returnQueue := s.lane.returnQueue ++ (if s.lane.returnQueue.length < 8 then [.retrain] else []) } } := by
  simp only [State.seekRepeat, h, if_true, Lane.send_eq]

theorem State.trainTimeout_of_due (s : State) (h : s.due.trainTimeout = true) : s.trainTimeout = { s with
    due := { s.due with trainTimeout := false }
    lane := { s.lane with
      state := .seek, returnQueue := [.retrain], errors := 0#4, seekTimer := 0, training := .none
      wire := if s.lane.wire = Wire.low then Wire.low else Wire.high } } := by
  simp only [State.trainTimeout, h, if_true, Lane.enterSeek_eq]

/-- The state with the fields replaced that the steps of a tick change beside the log. -/
def State.withTimers (s : State) (due : Due) (timer : RefreshTimer) (stats : Stats) (alerts : Alerts) : State :=
  { s with due, refreshTimer := timer, stats, alerts }

/-- An event is logged as it is whatever the timers, the counters and the alerts are. -/
theorem State.log_withTimers (s : State) (e : Event) (d : Due) (r : RefreshTimer) (st : Stats) (al : Alerts) :
    (s.withTimers d r st al).log e = (s.log e).withTimers d r st al := by
  rcases s.log_cases e with ⟨hl, he⟩ | ⟨hl, he⟩ <;> rw [he]
  · exact if_pos hl
  · exact if_neg (Nat.not_lt.2 hl)

/-- An alert beside those that are set. -/
def Alerts.raised (a : Alerts) (c : AlertCause) : Alerts := { a with sticky := a.sticky ||| alertBit c }

theorem Alerts.raised_comm (a : Alerts) (c d : AlertCause) : (a.raised c).raised d = (a.raised d).raised c := by
  simp only [Alerts.raised, BitVec.or_assoc, BitVec.or_comm (alertBit c)]

/-- A stall report as an event and a change of what stands beside the log. -/
theorem State.stallReport_eq (s : State) (cause : StallCause) (h : s.due.stall = some cause) :
    s.stallReport = (s.log (s.stallEvent cause)).withTimers { s.due with stall := none } s.refreshTimer s.stats
      (s.alerts.raised .laneStall) := by
  have logged := s.log_withTimers (s.stallEvent cause) { s.due with stall := none } s.refreshTimer s.stats s.alerts
  rw [s.stallReport_of_due cause h]
  exact congrArg (State.raise · .laneStall) logged

/-- An overrun as an event and a change of what stands beside the log. -/
theorem State.refreshDue_eq (s : State) (h : s.due.refresh = true) (hd : 6 ≤ s.refreshTimer.debt) :
    s.refreshDue = (s.log (s.event .refreshOverrun .array none 0#16)).withTimers
      { s.due with refresh := false } { s.refreshTimer with divider := 0 } (statCount s.stats .refreshOverruns)
      (s.alerts.raised .refresh) := by
  have logged := s.log_withTimers (s.event .refreshOverrun .array none 0#16) { s.due with refresh := false }
    { s.refreshTimer with divider := 0 } (statCount s.stats .refreshOverruns) s.alerts
  rw [s.refreshDue_overrun h hd]
  exact congrArg (State.raise · .refresh) logged

/-- The stall report and the refresh of one tick leave the same, whichever of them comes first (R158). -/
theorem State.stallReport_refreshDue (s : State) : s.stallReport.refreshDue = s.refreshDue.stallReport := by
  cases hs : s.due.stall with
  | none => rw [s.stallReport_of_none hs, State.stallReport_of_none _ (by simp [hs])]
  | some cause =>
    cases hr : s.due.refresh with
    | false => rw [s.refreshDue_of_not_due hr, State.refreshDue_of_not_due _ (by simp [hr])]
    | true =>
      have report := s.stallReport_eq cause hs
      have later := s.refreshDue.stallReport_eq cause (by simp [hs])
      have hr' : s.stallReport.due.refresh = true := by simp [hr]
      by_cases hd : 6 ≤ s.refreshTimer.debt
      · have overrun := s.refreshDue_eq hr hd
        have htime : s.stallReport.timebase = s.timebase := by rw [report]; exact s.log_timebase _
        have htime' : s.refreshDue.timebase = s.timebase := by rw [overrun]; exact s.log_timebase _
        have apart : eventByte (s.stallEvent cause).code ≠ eventByte .refreshOverrun := by
          rw [s.stallEvent_code]
          decide
        have order := s.log_comm (s.stallEvent cause) (s.event .refreshOverrun .array none 0#16) apart
        rw [later, s.stallReport.refreshDue_eq hr' (by rw [report]; exact hd), State.event_congr s _ htime,
          State.stallEvent_congr s _ cause htime', report, overrun, State.log_withTimers, State.log_withTimers, order]
        exact congrArg (State.withTimers _ _ _ _) (s.alerts.raised_comm .laneStall .refresh)
      · have hlt := Nat.lt_of_not_le hd
        have indebted := s.refreshDue_indebted hr hlt
        have htime : s.refreshDue.timebase = s.timebase := by rw [indebted]
        have logged := s.log_withTimers (s.stallEvent cause) { s.due with refresh := false }
          { s.refreshTimer with divider := 0, debt := s.refreshTimer.debt + 1 } s.stats s.alerts
        rw [later, s.stallReport.refreshDue_indebted hr' (by rw [report]; exact hlt),
          State.stallEvent_congr s _ cause htime, report, indebted]
        exact (congrArg (fun t => State.withTimers t _ _ _ _) logged).symm

theorem State.endOfInitialisation_of_due (s : State) (filled : Bool) (h : s.power.initEnd = some filled) :
    s.endOfInitialisation = (State.log { s with power := { s.power with state := .run, initEnd := none } }
      (s.event .initialized .power none (if filled then 1#16 else 2#16))).raise .power := by
  simp only [State.endOfInitialisation, h]
  rfl

/-- Settles O49: each row is its own step, and the steps and the places of the events are read off one by one. -/
theorem outstandingStepsHaveTheirEffects : Obligations.OutstandingStepsHaveTheirEffects := by
  intro s hh
  have row {t : State} (f : State → State) (ht : f s = t) : takeOutstanding s f = .next t := by
    rw [takeOutstanding_of_not_held s f hh, ht]
  refine ⟨fun h => row _ (s.lingerTick_of_due h), fun h hd => row _ (s.refreshDue_indebted h hd),
    fun h hd => row _ (s.refreshDue_overrun h hd), fun u v hu hv => ?_,
    fun e before now place hl hm _ hbefore hbehind log hlog => ?_,
    fun h => row _ (s.seekRepeat_of_due h), fun h => row _ (s.trainTimeout_of_due h),
    fun region bin h => row _ (s.stallReport_of_due _ h), fun h => row _ (s.stallReport_of_due _ h),
    fun filled h => row _ (s.endOfInitialisation_of_due filled h),
    fun h => row State.lingerTick (by simp [State.lingerTick, h]), fun h => row _ (s.refreshDue_of_not_due h),
    fun h => row State.seekRepeat (by simp [State.seekRepeat, h]),
    fun h => row State.trainTimeout (by simp [State.trainTimeout, h]), fun h => row _ (s.stallReport_of_none h),
    fun h => row State.endOfInitialisation (by simp [State.endOfInitialisation, h])⟩
  · have hu' : u = s.stallReport := by
      cases (row State.stallReport rfl).symm.trans hu
      rfl
    have hv' : v = s.refreshDue := by
      cases (row State.refreshDue rfl).symm.trans hv
      rfl
    subst hu' hv'
    change takeOutstanding s.stallReport State.refreshDue = takeOutstanding s.refreshDue State.stallReport
    rw [takeOutstanding_of_not_held _ _ (by simpa using hh), takeOutstanding_of_not_held _ _ (by simpa using hh),
      s.stallReport_refreshDue]
  · have hlen : s.eventLog.length - s.moment = before.length := by simp [hl, hm]
    have logged : s.logged e = log := by
      rw [s.logged_eq e before now hl hlen, insertEvent_eq e now place hbefore hbehind, hlog, List.append_assoc]
    refine ⟨fun hr => ?_, fun hf => ?_⟩
    · rw [s.log_room e hr, logged, hm]
    · rw [← logged]
      exact if_neg (Nat.not_lt.2 hf)

end Sys2Proof.Machine
end

section
/-! SUPPORT. The selection of a trim from a scoreboard (R62), and that the samples of the pins leave the programmed
fields of LANE_CONTROL and the reset signal as they were. -/

namespace Sys2Proof.Machine

/-! ### Runs of passing trims (R62) -/

theorem runLength_le (board : Half) (fuel t : Nat) : runLength board fuel t ≤ fuel := by
  induction fuel generalizing t with
  | zero => exact le_rfl
  | succ fuel ih =>
    unfold runLength
    split
    · exact Nat.succ_le_succ (ih _)
    · exact Nat.zero_le _

theorem passed_of_lt_runLength (board : Half) (fuel t k : Nat) (h : k < runLength board fuel t) :
    board.getLsbD (t + k) = true := by
  induction fuel generalizing t k with
  | zero => cases h
  | succ fuel ih =>
    unfold runLength at h
    split at h
    · cases k with
      | zero => assumption
      | succ k =>
        rw [← Nat.succ_add_eq_add_succ]
        exact ih (t + 1) k (Nat.lt_of_succ_lt_succ h)
    · cases h

/-- A run is as long as the trims that pass, up to the bound on the search. -/
theorem le_runLength (board : Half) (fuel t n : Nat) (hn : n ≤ fuel)
    (h : ∀ k < n, board.getLsbD (t + k) = true) : n ≤ runLength board fuel t := by
  induction fuel generalizing t n with
  | zero => exact hn
  | succ fuel ih =>
    cases n with
    | zero => exact Nat.zero_le _
    | succ n =>
      have first : passedTrim board t = true := h 0 (Nat.succ_pos n)
      have rest := ih (t + 1) n (Nat.le_of_succ_le_succ hn) fun k hk => by
        rw [Nat.succ_add_eq_add_succ]
        exact h (k + 1) (Nat.succ_lt_succ hk)
      simp only [runLength, first, if_true]
      exact Nat.succ_le_succ rest

/-- Behind a run that ends before the bound on the search stands a trim that did not pass. -/
theorem failed_at_runLength (board : Half) (fuel t : Nat) (h : runLength board fuel t < fuel) :
    board.getLsbD (t + runLength board fuel t) = false := by
  by_contra hc
  have longer := le_runLength board fuel t (runLength board fuel t + 1) h fun k hk => by
    rcases Nat.lt_succ_iff_lt_or_eq.1 hk with hk | rfl
    · exact passed_of_lt_runLength board fuel t k hk
    · exact Bool.eq_true_of_not_eq_false hc
  omega

/-- Every run of the trims from `t` to `last - 1` is shorter than the one that starts at `a` with length `n`, or as long
and no earlier (R62). -/
def LongestFrom (board : Half) (t last a n : Nat) : Prop :=
  n = runLength board (last - a) a ∧ t ≤ a ∧ a ≤ last
    ∧ ∀ a', t ≤ a' → a' < last →
        runLength board (last - a') a' < n ∨ (runLength board (last - a') a' = n ∧ a ≤ a')

theorem longestRun_spec (board : Half) (fuel t : Nat) :
    LongestFrom board t (t + fuel) (longestRun board fuel t).1 (longestRun board fuel t).2 := by
  induction fuel generalizing t with
  | zero => exact ⟨by simp [longestRun, runLength], le_rfl, le_rfl, fun a' h1 h2 => by omega⟩
  | succ fuel ih =>
    obtain ⟨hn, ht, hl, hmax⟩ := ih (t + 1)
    rw [Nat.add_assoc, Nat.add_comm 1] at hn hl hmax
    have here : runLength board (t + (fuel + 1) - t) t = runLength board (fuel + 1) t := by
      rw [Nat.add_sub_cancel_left]
    unfold longestRun
    dsimp only
    split
    · refine ⟨here.symm, le_rfl, by omega, fun a' h1 h2 => ?_⟩
      rcases Nat.eq_or_lt_of_le h1 with rfl | h1
      · exact .inr ⟨here, le_rfl⟩
      · have := hmax a' h1 h2
        omega
    · refine ⟨hn, by omega, hl, fun a' h1 h2 => ?_⟩
      rcases Nat.eq_or_lt_of_le h1 with rfl | h1
      · exact .inl (by omega)
      · exact hmax a' h1 h2

/-- Some trim has passed if the scoreboard is not empty. -/
theorem exists_passed (board : Half) (h : board ≠ 0#16) : ∃ t, t < 16 ∧ board.getLsbD t = true := by
  by_contra hc
  refine h (BitVec.eq_of_getLsbD_eq fun t ht => ?_)
  have failed : ¬ board.getLsbD t = true := fun hp => hc ⟨t, ht, hp⟩
  simpa using failed

/-- The longest run of a scoreboard that is not empty: its trims passed, no trim at its ends did, and every other run of
passing trims is shorter, or as long and no earlier (R62). -/
theorem LongestFrom.isRun {board : Half} {a n : Nat} (h : LongestFrom board 0 16 a n) (hb : board ≠ 0#16) :
    ∃ b, n = b - a + 1 ∧ a ≤ b ∧ b ≤ 15
      ∧ (∀ t, a ≤ t → t ≤ b → board.getLsbD t = true)
      ∧ (a = 0 ∨ board.getLsbD (a - 1) = false) ∧ (b = 15 ∨ board.getLsbD (b + 1) = false)
      ∧ (∀ a' b', a' ≤ b' → b' ≤ 15 → (∀ t, a' ≤ t → t ≤ b' → board.getLsbD t = true) →
          b' - a' < b - a ∨ (b' - a' = b - a ∧ a ≤ a')) := by
  obtain ⟨hn, -, hl, hmax⟩ := h
  have longest (a' b' : Nat) (hab : a' ≤ b') (hb' : b' ≤ 15)
      (hp : ∀ t, a' ≤ t → t ≤ b' → board.getLsbD t = true) : b' - a' + 1 < n ∨ (b' - a' + 1 ≤ n ∧ a ≤ a') := by
    have hlen := le_runLength board (16 - a') a' (b' - a' + 1) (by omega) fun k hk => hp _ (by omega) (by omega)
    rcases hmax a' (Nat.zero_le _) (by omega) with hm | ⟨hm, ha⟩
    · exact .inl (by omega)
    · exact .inr ⟨by omega, ha⟩
  have passed (t : Nat) (h1 : a ≤ t) (h2 : t < a + n) : board.getLsbD t = true := by
    rw [← Nat.add_sub_cancel' h1]
    exact passed_of_lt_runLength board (16 - a) a (t - a) (by omega)
  have hpos : 1 ≤ n := by
    obtain ⟨t, ht, hp⟩ := exists_passed board hb
    have single := longest t t le_rfl (by omega) fun u h1 h2 => by rwa [Nat.le_antisymm h2 h1]
    omega
  have hle : n ≤ 16 - a := hn ▸ runLength_le board (16 - a) a
  refine ⟨a + n - 1, by omega, by omega, by omega, fun t h1 h2 => passed t h1 (by omega), ?_, ?_, ?_⟩
  · by_contra hc
    obtain ⟨ha, hp⟩ := not_or.1 hc
    have wider := longest (a - 1) (a + n - 1) (by omega) (by omega) fun t h1 h2 => by
      rcases Nat.eq_or_lt_of_le h1 with rfl | h1
      · exact Bool.eq_true_of_not_eq_false hp
      · exact passed t (by omega) (by omega)
    omega
  · rcases Nat.eq_or_lt_of_le hle with he | he
    · exact .inl (by omega)
    · have stop := failed_at_runLength board (16 - a) a (by omega)
      rw [← hn] at stop
      exact .inr (by rwa [Nat.sub_add_cancel (by omega)])
  · intro a' b' hab hb' hp
    have := longest a' b' hab hb' hp
    omega

/-! ### What the samples of the pins leave as it was -/

@[simp] theorem State.credit_laneControl (s : State) : s.credit.laneControl = s.laneControl := by
  unfold State.credit
  split <;> rfl

@[simp] theorem State.laneHandled_laneControl (s : State) : s.laneHandled.laneControl = s.laneControl := by
  unfold State.laneHandled
  dsimp only
  split <;> simp

@[simp] theorem State.padRecord_laneControl (s : State) : s.padRecord.laneControl = s.laneControl := by
  rcases s.padRecord_cases with ⟨q, r, -, -, he⟩ | he <;> simp [he]

@[simp] theorem State.reservedRecord_laneControl (s : State) : s.reservedRecord.laneControl = s.laneControl := by
  rcases s.reservedRecord_cases with ⟨q, r, -, -, he⟩ | he <;> simp [he]

@[simp] theorem State.markRecord_laneControl (s : State) : s.markRecord.laneControl = s.laneControl := by
  rcases s.markRecord_cases with ⟨q, r, slot, -, -, -, -, he⟩ | ⟨-, he⟩ <;> rw [he]
  simp [State.registerMarker]

@[simp] theorem State.takeHeads_laneControl (s : State) : s.takeHeads.laneControl = s.laneControl := by
  have heads (n : Nat) (t : State) : (t.headRecords n).laneControl = t.laneControl := by
    induction n generalizing t with
    | zero => rfl
    | succ n ih =>
      unfold State.headRecords
      split
      · simp [ih]
      · rfl
  exact heads _ s

@[simp] theorem State.endOfInitialisation_laneControl (s : State) :
    s.endOfInitialisation.laneControl = s.laneControl := by
  unfold State.endOfInitialisation
  split <;> simp

@[simp] theorem State.stallReport_laneControl (s : State) : s.stallReport.laneControl = s.laneControl := by
  unfold State.stallReport
  split <;> simp

@[simp] theorem State.refreshDue_laneControl (s : State) : s.refreshDue.laneControl = s.laneControl := by
  unfold State.refreshDue
  dsimp only
  split
  · split <;> simp
  · rfl

@[simp] theorem State.terminalRecord_laneControl (s : State) : s.terminalRecord.laneControl = s.laneControl := by
  cases h : s.terminalDue
  · rw [s.terminalRecord_of_not_due h]
  · obtain ⟨w, rest, -, -, he⟩ := s.terminalRecord_of_due h
    rw [he]
    rfl

@[simp] theorem State.settle_laneControl (s : State) : s.settle.laneControl = s.laneControl := by
  have linger (t : State) : t.lingerTick.laneControl = t.laneControl := by unfold State.lingerTick; split <;> rfl
  have repeats (t : State) : t.seekRepeat.laneControl = t.laneControl := by unfold State.seekRepeat; split <;> rfl
  have timeout (t : State) : t.trainTimeout.laneControl = t.laneControl := by
    unfold State.trainTimeout; split <;> rfl
  have starts (t : State) : t.sweepStart.laneControl = t.laneControl := by
    unfold State.sweepStart
    split
    · rfl
    · split <;> rfl
  simp [State.settle, linger, repeats, timeout, starts]

theorem State.frameDropped_frame (s : State) :
    s.frameDropped.laneControl = s.laneControl ∧ s.frameDropped.power = s.power := by
  unfold State.frameDropped
  dsimp only
  split <;> simp [State.laneEvent]

theorem State.lockedFrame_frame (s : State) (f : Frame) :
    (s.lockedFrame f).laneControl = s.laneControl ∧ (s.lockedFrame f).power = s.power := by
  unfold State.lockedFrame
  split
  · simp [State.overrun, State.laneEvent]
  split
  · simp [State.formatError, State.laneEvent, State.frameDropped_frame]
  split
  · simp [State.crcError, State.laneEvent, State.frameDropped_frame]
  split
  · exact ⟨rfl, rfl⟩
  split
  · simp [State.formatError, State.laneEvent, State.frameDropped_frame]
  split
  · rw [s.acceptFrame_eq _ f rfl]
    split <;> simp
  · simp [State.formatError, State.laneEvent, State.frameDropped_frame]

theorem State.trainingFailed_frame (s : State) :
    s.trainingFailed.laneControl = s.laneControl ∧ s.trainingFailed.power = s.power := by
  simp [State.trainingFailed]

theorem State.trimJudged_frame (s : State) :
    s.trimJudged.laneControl = s.laneControl ∧ s.trimJudged.power = s.power := by
  unfold State.trimJudged
  dsimp only
  split
  · split
    · split
      · exact ⟨rfl, rfl⟩
      · simp [State.trainingFailed_frame]
    · exact ⟨rfl, rfl⟩
  · split
    · simp [State.trainingFailed_frame]
    · exact ⟨rfl, rfl⟩

theorem State.trainFrame_frame (s : State) (f : Frame) :
    (s.trainFrame f).laneControl = s.laneControl ∧ (s.trainFrame f).power = s.power := by
  unfold State.trainFrame
  dsimp only
  split
  · exact ⟨rfl, rfl⟩
  · split
    · exact ⟨rfl, rfl⟩
    · simp [State.trimJudged_frame]

/-- A frame changes neither the programmed fields of LANE_CONTROL nor the power state, whatever the lane's state. -/
theorem State.frameArrives_frame (s : State) (f : Frame) :
    (s.frameArrives f).laneControl = s.laneControl ∧ (s.frameArrives f).power = s.power := by
  unfold State.frameArrives
  split
  · exact ⟨rfl, rfl⟩
  · exact ⟨rfl, rfl⟩
  · unfold State.seekFrame
    split <;> exact ⟨rfl, rfl⟩
  · exact s.trainFrame_frame f
  · exact s.lockedFrame_frame f

theorem State.lclkEdge_frame (s : State) (x : LaneSample) :
    (s.lclkEdge x).laneControl = s.laneControl ∧ (s.lclkEdge x).power = s.power := by
  have sampled (t : State) : (t.samplePins x).laneControl = t.laneControl ∧ (t.samplePins x).power = t.power := by
    unfold State.samplePins
    split
    case h_3 => simp [State.frameArrives_frame]
    all_goals exact ⟨rfl, rfl⟩
  unfold State.lclkEdge
  dsimp only
  split
  · exact ⟨rfl, rfl⟩
  · simp [sampled]

/-- The edges of LCLK leave the programmed fields of LANE_CONTROL and the reset signal alone. -/
theorem State.lclkEdges_frame_held (s : State) (xs : List LaneSample) :
    (s.lclkEdges xs).laneControl = s.laneControl ∧ (s.lclkEdges xs).power.held = s.power.held := by
  unfold State.lclkEdges
  induction xs generalizing s with
  | nil => exact ⟨rfl, rfl⟩
  | cons x xs ih =>
    obtain ⟨hc, hp⟩ := s.settle.lclkEdge_frame x
    obtain ⟨ic, ip⟩ := ih (s.settle.lclkEdge x)
    exact ⟨by rw [List.foldl_cons, ic, hc, s.settle_laneControl], by rw [List.foldl_cons, ip, hp, s.settle_held]⟩

/-- A row that brings samples, taken while no reset is in force (R51). -/
theorem exec_samples (row : Instr) (xs : List LaneSample) (s : State) (h : s.power.held = false)
    (hr : row = .dataFrame xs ∨ row = .trainingFrame xs) : exec row s = .next (s.settle.lclkEdges xs) := by
  rcases hr with rfl | rfl <;> exact takeStep_of_not_held s (fun t => .next (t.lclkEdges xs)) h

/-- Settles O47: the selected trim is the middle of the longest run, and no sample reaches LANE_CONTROL. -/
theorem trainingSelectsTheMiddleTrim : Obligations.TrainingSelectsTheMiddleTrim := by
  refine ⟨fun board => ⟨?_, fun hb => ?_⟩, fun row xs s t hr hx => ?_⟩
  · rintro rfl
    rfl
  · obtain ⟨b, hn, hab, hb15, hpassed, hfirst, hlast, hlongest⟩ := LongestFrom.isRun (longestRun_spec board 16 0) hb
    refine ⟨_, b, hab, hb15, hpassed, hfirst, hlast, hlongest, ?_⟩
    unfold selectTrim
    dsimp only
    rw [if_neg (by omega), hn, Nat.add_sub_cancel]
  · cases hh : s.power.held with
    | true =>
      have held := exec_of_held row s (by rcases hr with rfl | rfl <;> rfl) hh
      cases held.symm.trans hx
      rfl
    | false =>
      cases (exec_samples row xs s hh hr).symm.trans hx
      rw [(s.settle.lclkEdges_frame_held xs).1, s.settle_laneControl]

end Sys2Proof.Machine
end

section
/-! SUPPORT. The samples of the pins in every state of the lane (R51, R52, R59), and the frames of a lane that is not
LOCKED: what is ignored, what leads to TRAIN, how a frame is judged there, and how a training ends (R55, R60 to R65). -/

namespace Sys2Proof.Machine

/-! ### The samples of the pins (R51, R52) -/

/-- The bits still to go on LRET and the receiver's knowledge of the pins replaced. -/
def State.withPins (s : State) (lret : List Bool) (wire : Wire) : State :=
  { s with lane := { s.lane with lret, wire } }

theorem State.withPins_settled (s : State) (lret : List Bool) (wire : Wire) (h : s.settled = true) :
    (s.withPins lret wire).settled = true := h

theorem State.lclkEdges_cons (s : State) (x : LaneSample) (xs : List LaneSample) (h : s.settled = true) :
    s.lclkEdges (x :: xs) = (s.lclkEdge x).lclkEdges xs := by
  unfold State.lclkEdges
  rw [List.foldl_cons, s.settle_of_settled h]

/-- In OFF an edge of LCLK moves LRET on, and no sample is taken (R51, R59). -/
theorem State.lclkEdge_off (s : State) (x : LaneSample) (ho : s.lane.state = .off) :
    s.lclkEdge x = s.withPins s.lane.lret.tail s.lane.wire := if_pos ho

/-- A high sample begins a frame, adds to the one in progress, or belongs to a run that is not received (R51). -/
theorem State.lclkEdge_high (s : State) (n : BitVec 4) (ho : s.lane.state ≠ .off) :
    s.lclkEdge { lfrm := true, ld := n } = s.withPins s.lane.lret.tail
      (match s.lane.wire with | .low => .frame [n] | .frame old => .frame (old ++ [n]) | .high => .high) := by
  refine (if_neg ho).trans ?_
  unfold State.samplePins
  cases hw : s.lane.wire <;> simp [State.withPins, hw]

/-- A low sample with no frame in progress is found, and no more (R51). -/
theorem State.lclkEdge_low (s : State) (d : BitVec 4) (ho : s.lane.state ≠ .off)
    (hw : s.lane.wire = .low ∨ s.lane.wire = .high) :
    s.lclkEdge { lfrm := false, ld := d } = s.withPins s.lane.lret.tail .low := by
  refine (if_neg ho).trans ?_
  unfold State.samplePins
  rcases hw with hw | hw <;> simp [State.withPins, hw]

theorem State.lclkEdges_off (s : State) (xs : List LaneSample) (h : s.settled = true) (ho : s.lane.state = .off) :
    s.lclkEdges xs = s.withPins (s.lane.lret.drop xs.length) s.lane.wire := by
  induction xs generalizing s with
  | nil => rfl
  | cons x xs ih =>
    have rest := ih (s.withPins s.lane.lret.tail s.lane.wire) (s.withPins_settled _ _ h) ho
    rw [s.lclkEdges_cons x xs h, s.lclkEdge_off x ho, rest, List.length_cons, ← List.drop_tail]
    rfl

/-- A run of high samples that is not received leaves no trace on the receiver (R51). -/
theorem State.lclkEdges_unheard (s : State) (ns : List (BitVec 4)) (h : s.settled = true) (ho : s.lane.state ≠ .off)
    (hw : s.lane.wire = .high) :
    s.lclkEdges (ns.map fun n => { lfrm := true, ld := n }) = s.withPins (s.lane.lret.drop ns.length) .high := by
  induction ns generalizing s with
  | nil => rw [← hw]; rfl
  | cons n ns ih =>
    have rest := ih (s.withPins s.lane.lret.tail .high) (s.withPins_settled _ _ h) ho rfl
    rw [List.map_cons, s.lclkEdges_cons _ _ h, s.lclkEdge_high n ho, hw, rest, List.length_cons, ← List.drop_tail]
    rfl

/-- A run of high samples begins a frame, adds to the one in progress, or is not received (R51). -/
theorem State.lclkEdges_run (s : State) (n : BitVec 4) (ns : List (BitVec 4)) (h : s.settled = true)
    (ho : s.lane.state ≠ .off) :
    s.lclkEdges ((n :: ns).map fun n => { lfrm := true, ld := n }) = s.withPins (s.lane.lret.drop (n :: ns).length)
      (match s.lane.wire with
        | .low => .frame (n :: ns)
        | .frame old => .frame (old ++ n :: ns)
        | .high => .high) := by
  cases hw : s.lane.wire with
  | low =>
    have rest := (s.withPins s.lane.lret.tail (.frame [n])).lclkEdges_high [n] ns [] (s.withPins_settled _ _ h) ho rfl
    rw [List.append_nil] at rest
    rw [List.map_cons, s.lclkEdges_cons _ _ h, s.lclkEdge_high n ho, hw, rest, List.length_cons, ← List.drop_tail]
    rfl
  | frame old =>
    have rest := s.lclkEdges_high old (n :: ns) [] h ho hw
    rwa [List.append_nil] at rest
  | high => exact s.lclkEdges_unheard (n :: ns) h ho hw

/-- Samples that come in two rows act as if in one (R51). -/
theorem exec_samples_append (row : Instr) (a b : List LaneSample) (s t : State) (h : s.quiet) (hb : b ≠ [])
    (hr : row = .dataFrame (a ++ b) ∨ row = .trainingFrame (a ++ b)) (ht : exec (.dataFrame a) s = .next t) :
    exec row s = exec (.dataFrame b) t := by
  cases (exec_samples _ a s h.1 (.inl rfl)).symm.trans ht
  have hheld : (s.settle.lclkEdges a).power.held = false := by
    rw [(s.settle.lclkEdges_frame_held a).2, s.settle_held, h.1]
  rw [exec_samples row (a ++ b) s h.1 hr, exec_samples _ b _ hheld (.inl rfl)]
  obtain ⟨x, b, rfl⟩ := List.exists_cons_of_ne_nil hb
  unfold State.lclkEdges
  rw [List.foldl_append, List.foldl_cons, List.foldl_cons, State.settle_of_settled _ (State.settle_settled _)]

/-! ### What a frame is (R53 to R55) -/

theorem frameCrcGood_eq (f : Frame) : frameCrcGood f = (!f.oddSample && decide (4 ≤ f.bytes.length ∧
    f.bytes.drop (f.bytes.length - 2) = halfBytes (crc16 (f.bytes.take (f.bytes.length - 2))))) := by
  cases hs : frameShort f with
  | true =>
    have bad : frameCrcGood f = false := by simp [frameCrcGood, hs]
    rw [bad]
    simp only [frameShort, Bool.or_eq_true, decide_eq_true_eq] at hs
    rcases hs with hs | hs
    · rw [hs]; rfl
    · simp [Nat.not_le.2 hs]
  | false =>
    obtain ⟨ho, hl⟩ := (frameShort_eq_false_iff f).1 hs
    rw [Bool.eq_iff_iff, frameCrcGood_iff f hs]
    simp [ho, hl]

/-- A frame matches in its length, its KIND, its pattern and its CRC (R55). -/
theorem frameMatches_eq (f : Frame) : frameMatches f = (!f.oddSample && frameCrcGood f
    && decide (f.bytes.length = 20 ∧ f.bytes.take 18 = trainingBody)) := by
  unfold frameMatches
  by_cases hl : f.bytes.length = 20 <;> by_cases hb : f.bytes.take 18 = trainingBody <;> simp [hl, hb]

/-! ### SEEK, FAULT and TRAIN (R60 to R65) -/

theorem State.frameArrives_fault (s : State) (f : Frame) (h : s.lane.state = .fault) : s.frameArrives f = s := by
  simp only [State.frameArrives, h]

theorem State.frameArrives_seek (s : State) (f : Frame) (h : s.lane.state = .seek) :
    s.frameArrives f = s.seekFrame f := by
  simp only [State.frameArrives, h]

theorem State.frameArrives_train (s : State) (f : Frame) (h : s.lane.state = .train) :
    s.frameArrives f = s.trainFrame f := by
  simp only [State.frameArrives, h]

/-- The training once a frame has been judged at its trim (R61). -/
def Training.judged (t : Training) (good : Bool) : Training :=
  { t with
    dwell := t.dwell + 1
    failed := t.failed || !good
    matched := if good then t.matched ||| (1#16 <<< t.trim.toNat) else t.matched }

/-- The frame is one that TRAIN ignores: KIND DATA with a good CRC (R61). -/
def trainIgnores (f : Frame) : Prop := frameKind f = some 1#4 ∧ frameCrcGood f = true

theorem State.trainFrame_ignored (s : State) (f : Frame) (h : trainIgnores f) :
    s.trainFrame f = { s with lane := { s.lane with trainTimer := 0 } } := if_pos h

/-- A frame that is judged restarts the timer, and its trim ends with the 16th (R61). -/
theorem State.trainFrame_judged (s u : State) (f : Frame) (h : ¬ trainIgnores f)
    (hu : u = { s with
      lane := { s.lane with trainTimer := 0, training := s.lane.training.judged (frameMatches f) } }) :
    s.trainFrame f = if s.lane.training.dwell + 1 < 16 then u else u.trimJudged := by
  subst hu
  exact if_neg h

/-- Settles O45: the samples by the state of the wire, and the frames by the state of the lane. -/
theorem framesOutsideLockedTrain : Obligations.FramesOutsideLockedTrain := by
  refine ⟨fun row xs s hq hr => ?_, fun row f s w isData goodCrc good hq hb hdata hcrc hgood => ?_⟩
  · have hx : exec row s = .next (s.lclkEdges xs) := by
      rw [exec_samples row xs s hq.1 hr, s.settle_of_settled hq.2]
    refine ⟨fun ho => ?_, ?_, ?_, ?_⟩
    · rw [hx, s.lclkEdges_off xs hq.2 ho]
      rfl
    · rintro n ns ho rfl
      rw [hx, s.lclkEdges_run n ns hq.2 ho, List.length_map]
      cases s.lane.wire <;> rfl
    · rintro d ho rfl hw
      rw [hx, s.lclkEdges_cons _ _ hq.2, s.lclkEdge_low d ho hw]
      rfl
    · rintro a b t rfl hne ht
      exact exec_samples_append row a b s t hq hne hr ht
  · obtain ⟨hlane, -, -, hcontrol, -⟩ := State.brings_frame row f s w hb
    obtain rfl : isData = decide (frameKind f = some 1#4) := hdata
    obtain rfl : goodCrc = frameCrcGood f := hcrc.trans (frameCrcGood_eq f).symm
    obtain rfl : good = frameMatches f := hgood.trans (frameMatches_eq f).symm
    have hstate : w.lane.state = s.lane.state := by rw [hlane]
    have htraining : w.lane.training = s.lane.training := by rw [hlane]
    have arrives (h : s.lane.state ≠ .off) := exec_of_brings row f s w hq h hb
    rw [decide_eq_true_iff, decide_eq_false_iff_not]
    refine ⟨fun h => ?_, fun h hk => ?_, fun h hk => ?_, fun h hk hc => ?_, fun h hi hd => ?_⟩
    all_goals rw [arrives (by simp [h])]
    · rw [w.frameArrives_fault f (hstate.trans h)]
    · rw [w.frameArrives_seek f (hstate.trans h)]
      exact congrArg Host.Outcome.next (if_pos hk)
    · rw [w.frameArrives_seek f (hstate.trans h), ← hcontrol]
      exact congrArg Host.Outcome.next (if_neg hk)
    · rw [w.frameArrives_train f (hstate.trans h), w.trainFrame_ignored f ⟨hk, hc⟩]
    · rw [w.frameArrives_train f (hstate.trans h), ← htraining, w.trainFrame_judged _ f hi rfl,
        if_pos (by rwa [htraining])]
      rfl

/-! ### The end of a training (R61 to R64) -/

/-- A training passes: the trim is in use, READY is placed if the return queue has room, and the lane is LOCKED, with no
event (R52, R64). -/
theorem State.trainingPassed_eq (s : State) (trim : Trim) (n : BitVec 3)
    (hn : n = if s.power.state = .quiescing then 0#3 else BitVec.ofNat 3 (4 - s.lane.buffer.length)) :
    s.trainingPassed trim = { s with
      lane := { s.lane with
        state := .locked, trimInUse := trim, expectedSeq := 0#8, errors := 0#4
        returnQueue := s.lane.returnQueue ++ (if s.lane.returnQueue.length < 8 then [.ready n] else []) } } := by
  subst hn
  simp only [State.trainingPassed, Lane.send_eq]
  rfl

/-- The training once the trim under evaluation has had its 16 frames: a trim that passed is in the scoreboard (R61). -/
def Training.ended (t : Training) : Training :=
  { t with scoreboard := if t.failed then t.scoreboard else t.scoreboard ||| (1#16 <<< t.trim.toNat) }

/-- An automatic training goes on to the next trim (R61, R62). -/
theorem State.trimJudged_next (s : State) (t : Training) (ht : t = s.lane.training.ended) (ha : t.auto = true)
    (h : t.trim ≠ 15#4) :
    s.trimJudged
      = { s with lane := { s.lane with training := { t with trim := t.trim + 1, dwell := 0, failed := false } } } := by
  subst ht
  exact (if_pos ha).trans (if_neg h)

/-- An automatic training ends with its last trim: what the scoreboard selects, or a failure (R62, R64). -/
theorem State.trimJudged_last (s u : State) (t : Training) (ht : t = s.lane.training.ended) (ha : t.auto = true)
    (h : t.trim = 15#4) (hu : u = { s with lane := { s.lane with training := t } }) :
    s.trimJudged = (selectTrim t.scoreboard).elim u.trainingFailed u.trainingPassed := by
  subst hu ht
  refine ((if_pos ha).trans (if_pos h)).trans ?_
  split
  · rename_i trim hs
    rw [show selectTrim s.lane.training.ended.scoreboard = some trim from hs]
    rfl
  · rename_i hs
    rw [show selectTrim s.lane.training.ended.scoreboard = none from hs]
    rfl

/-- A manual training ends with its one trim (R63, R64). -/
theorem State.trimJudged_manual (s u : State) (t : Training) (ht : t = s.lane.training.ended) (ha : t.auto = false)
    (hu : u = { s with lane := { s.lane with training := t } }) :
    s.trimJudged = if t.failed then u.trainingFailed else u.trainingPassed t.trim := by
  subst hu ht
  exact if_neg (by simp [show s.lane.training.auto = false from ha])

/-- Settles O46: the frame is the 16th judged, and the end of its trim is read off by what AUTO_TRAIN and the trim
are. -/
theorem trainingEndsAtItsLastFrame : Obligations.TrainingEndsAtItsLastFrame := by
  intro row f s w good pass t l n hq hb hstate hdwell hi hgood hpass ht hl hn passes fails hpasses hfails
  subst hgood hpass
  obtain ⟨hlane, -, htime, -, hpower⟩ := State.brings_frame row f s w hb
  have htraining : w.lane.training = s.lane.training := by rw [hlane]
  have hbuffer : w.lane.buffer = s.lane.buffer := by rw [hlane]
  have hqueue : w.lane.returnQueue = s.lane.returnQueue := by rw [hlane]
  have ended : t = (w.lane.training.judged (frameMatches f)).ended := by
    rw [ht, htraining]
    simp only [Training.judged, Training.ended, hdwell]
    cases frameMatches f <;> cases s.lane.training.failed <;> rfl
  have hx : exec row s = .next (State.trimJudged { w with
      lane := { w.lane with trainTimer := 0, training := w.lane.training.judged (frameMatches f) } }) := by
    rw [exec_of_brings row f s w hq (by simp [hstate]) hb, w.frameArrives_train f (by rw [hlane]; exact hstate),
      w.trainFrame_judged _ f hi rfl, if_neg (by rw [htraining, hdwell]; decide)]
  have passed (trim : Trim) : State.trainingPassed { w with lane := l } trim = passes trim := by
    rw [hpasses, State.trainingPassed_eq _ trim n (by rw [hn, ← hpower, ← hbuffer, hl]), ← hqueue, hl]
  have failed : State.trainingFailed { w with lane := l } = fails := by
    rw [hfails, ← State.event_congr s w htime, hl]
    rfl
  rw [hx]
  refine ⟨fun ha h15 => ?_, fun ha h15 => ⟨fun trim hs => ?_, fun h0 => ?_⟩, fun ha hp => ?_, fun ha hp => ?_⟩
  · rw [State.trimJudged_next _ t ended ha h15, hl]
  · rw [State.trimJudged_last _ { w with lane := l } t ended ha h15 (by rw [hl]), hs, ← passed]
    rfl
  · rw [State.trimJudged_last _ { w with lane := l } t ended ha h15 (by rw [hl]), h0, ← failed]
    rfl
  · rw [State.trimJudged_manual _ { w with lane := l } t ended ha (by rw [hl]), ← passed]
    exact congrArg Host.Outcome.next (if_neg (by simp [ht, hp]))
  · rw [State.trimJudged_manual _ { w with lane := l } t ended ha (by rw [hl]), ← failed]
    exact congrArg Host.Outcome.next (if_pos (by simp [ht, hp]))

end Sys2Proof.Machine
end

section
/-! SUPPORT. The four LANE_CONTROL rows: the ACTION that each brings, the fields written, and what the lane does about
the change of LANE_ENABLE and about RESET (R66, R72, R174). -/

namespace Sys2Proof.Machine

/-! ### The ACTION field (R174) -/

theorem withAction_getLsbD (action : BitVec 2) (value : Word) (i : Nat) :
    (withAction action value).getLsbD i =
      if i < 16 then value.getLsbD i
      else if i - 16 < 2 then action.getLsbD (i - 16) else (value.extractLsb' 18 14).getLsbD (i - 16 - 2) := by
  refine BitVec.getLsbD_append.trans ?_
  rw [BitVec.getLsbD_append]
  by_cases h : i < 16 <;> simp [h]

theorem withAction_action (action : BitVec 2) (value : Word) : (withAction action value).extractLsb' 16 2 = action := by
  refine BitVec.eq_of_getLsbD_eq fun i hi => ?_
  rw [BitVec.getLsbD_extractLsb', withAction_getLsbD, if_neg (by omega), Nat.add_sub_cancel_left, if_pos hi]
  simp [hi]

theorem withAction_extractLsb' (action : BitVec 2) (value : Word) (p w : Nat) (h : p + w ≤ 16) :
    (withAction action value).extractLsb' p w = value.extractLsb' p w := by
  refine BitVec.eq_of_getLsbD_eq fun i hi => ?_
  rw [BitVec.getLsbD_extractLsb', BitVec.getLsbD_extractLsb', withAction_getLsbD, if_pos (by omega)]

/-- Each of the four rows is a write of LANE_CONTROL with its own ACTION (log entry 9). -/
theorem laneControl_row (c : Instr) (action : BitVec 2) (value : Word) (crc : Byte)
    (h : (c = .laneEnable value crc ∧ action = 0#2) ∨ (c = .trimUp value crc ∧ action = 1#2)
      ∨ (c = .trimDown value crc ∧ action = 2#2) ∨ (c = .laneReset value crc ∧ action = 3#2)) :
    requestOf c = some (.regWrite, 0x08#8 :: wordBytes (withAction action value), crc)
      ∧ ∀ s, exec c s = request .regWrite (0x08#8 :: wordBytes (withAction action value)) crc
          (fun _ => writeDecision 0x08#8 (withAction action value)) s := by
  rcases h with ⟨rfl, rfl⟩ | ⟨rfl, rfl⟩ | ⟨rfl, rfl⟩ | ⟨rfl, rfl⟩ <;> exact ⟨rfl, fun _ => rfl⟩

/-! ### The fields (R66) -/

/-- The programmed TRIM as written, or one step of it that stays at 15 and at 0 (R66). -/
theorem writtenTrim_toNat (old : Trim) (action : BitVec 2) (value : Word) :
    (writtenTrim old (withAction action value)).toNat =
      if action = 1#2 then Nat.min (old.toNat + 1) 15
      else if action = 2#2 then old.toNat - 1
      else (value.extractLsb' 4 4).toNat := by
  have hlt := old.isLt
  unfold writtenTrim
  dsimp only
  rw [withAction_action, withAction_extractLsb' action value 4 4 (by decide)]
  have up : (if old = 15#4 then old else old + 1).toNat = min (old.toNat + 1) 15 := by
    split <;> bv_omega
  have down : (if old = 0#4 then old else old - 1).toNat = old.toNat - 1 := by
    split <;> bv_omega
  split
  · exact up
  split
  · exact down
  · rfl

/-- LANE_CONTROL reads back its fields, with ACTION NONE (R174). -/
theorem readLaneControl_eq (l : LaneControl) (value : Word) (he : l.enable = value.getLsbD 0)
    (ha : l.autoTrain = value.getLsbD 1) (hl : l.errLimit = value.extractLsb' 8 4) :
    readLaneControl l = (value &&& 0x0F03#32) ||| (l.trim.zeroExtend 32 <<< 4) := by
  have flagged (i : Nat) : flag (value.getLsbD i) i = value &&& (1#32 <<< i) := by
    have one : BitVec.ofBool (value.getLsbD i) = value.extractLsb' i 1 := by
      refine BitVec.eq_of_getLsbD_eq fun j hj => ?_
      obtain rfl : j = 0 := by omega
      simp
    rw [flag, one]
    exact field_extractLsb' value i 1
  calc readLaneControl l
    _ = (value &&& 1#32 <<< 0) ||| (value &&& 1#32 <<< 1) ||| field l.trim 4 ||| (value &&& 0xF#32 <<< 8) := by
      rw [readLaneControl, he, ha, hl, flagged, flagged, field_extractLsb' value 8 4]
      rfl
    _ = (value &&& (1#32 <<< 0 ||| 1#32 <<< 1 ||| 0xF#32 <<< 8)) ||| field l.trim 4 := by
      rw [BitVec.and_or_distrib_left, BitVec.and_or_distrib_left, BitVec.or_assoc, BitVec.or_comm (field l.trim 4),
        ← BitVec.or_assoc]

/-! ### The lane (R59, R60, R72) -/

/-- A lane that is restarted: all but the trim in use, the expected SEQ and the message on LRET is cleared, and an
enabled lane is in SEEK with one RETRAIN (R72). -/
theorem Lane.restart_eq (l : Lane) (enabled : Bool) : l.restart enabled = { l with
    state := if enabled then .seek else .off
    training := .none
    returnQueue := if enabled then [.retrain] else []
    buffer := []
    parked := false
    errors := 0#4
    seekTimer := 0
    trainTimer := 0
    stallCount := 0
    stallReported := false
    wire := if enabled = true ∧ l.wire = Wire.low then Wire.low else Wire.high } := by
  cases enabled with
  | false => rfl
  | true => simp [Lane.restart, Lane.enterSeek, Lane.enterOff, Lane.endStall, Wire.abandon_eq]

@[simp] theorem State.laneReset_laneControl (s : State) : s.laneReset.laneControl = s.laneControl := by
  unfold State.laneReset
  dsimp only
  split <;> simp [State.laneEvent]

/-- A lane reset: the lane restarts, LANE_RESET is logged with the frames that were held, and LANE_STATE is set if the
lane was LOCKED (R72). -/
theorem State.laneReset_eq (s x : State)
    (hx : x = State.log { s with lane := s.lane.restart s.laneControl.enable }
      (s.event .laneReset .lane none (BitVec.ofNat 16 s.lane.buffer.length))) :
    s.laneReset = if s.lane.state = .locked then x.raise .laneState else x := by
  subst hx
  rfl

/-- The fields of LANE_CONTROL after a write (R66). -/
def LaneControl.written (l : LaneControl) (value : Word) (trim : Trim) : LaneControl :=
  { enable := value.getLsbD 0, autoTrain := value.getLsbD 1, trim, errLimit := value.extractLsb' 8 4
    holdLimit := l.holdLimit }

/-- A write of LANE_CONTROL: the fields first, then one outcome of RESET and the change of LANE_ENABLE (R174). -/
theorem State.writeLaneControl_eq (s w : State) (action : BitVec 2) (value : Word) (trim : Trim)
    (ht : trim = writtenTrim s.laneControl.trim (withAction action value))
    (hw : w = { s with laneControl := s.laneControl.written value trim }) :
    s.writeLaneControl (withAction action value) =
      if action = 3#2 ∨ (s.laneControl.enable = true ∧ value.getLsbD 0 = false) then w.laneReset
      else if s.laneControl.enable = false ∧ value.getLsbD 0 = true then { w with lane := s.lane.enterSeek }
      else w := by
  have low (i : Nat) (h : i < 16) : (withAction action value).getLsbD i = value.getLsbD i := by
    rw [withAction_getLsbD, if_pos h]
  subst hw ht
  simp only [State.writeLaneControl, low 0 (by decide), low 1 (by decide), withAction_action,
    withAction_extractLsb' action value 8 4 (by decide)]
  rfl

theorem writeDecision_laneControl (value : Word) : writeDecision 0x08#8 value =
    if 1 ≤ fieldOf value 8 4 then accept [] (.writeRegister .laneControl value) else refuse .badField := by
  have index : registerOf 0x08#8 = some .laneControl := rfl
  simp only [writeDecision, index, writeAccepted, decide_eq_true_eq]

/-- Settles O19: the write is checked, replaces the fields, and has the one outcome that its ACTION and the change of
LANE_ENABLE call for. -/
theorem laneControlActsInOrder : Obligations.LaneControlActsInOrder := by
  intro c action value crc s hrow h hw
  obtain ⟨hq, hx⟩ := laneControl_row c action value crc hrow
  have admitted := powerRefusal_of_writable s .regWrite hw (by decide) (by decide)
  have limit : 1 ≤ fieldOf (withAction action value) 8 4 ↔ value.extractLsb' 8 4 ≠ 0#4 := by
    rw [fieldOf, withAction_extractLsb' action value 8 4 (by decide)]
    bv_omega
  have carries {code : ResponseCode} {commit : Commit}
      (hd : writeDecision 0x08#8 (withAction action value) = { code, body := [], commit }) (hc : code ≠ .badCrc) :=
    State.carriesOut_of_own h hq (hx s) admitted hd hc
  rw [writeDecision_laneControl] at carries
  refine ⟨fun hz => carries (if_neg fun hl => limit.1 hl hz) (by decide), ?_⟩
  rintro hnz before after acts trim w rfl rfl rfl htrim hwritten
  have trimmed : trim = writtenTrim s.laneControl.trim (withAction action value) :=
    BitVec.eq_of_toNat_eq (htrim.trans (writtenTrim_toNat s.laneControl.trim action value).symm)
  have outcome := s.writeLaneControl_eq w action value trim trimmed hwritten
  have resets : (decide (action = 3#2) || (s.laneControl.enable && !value.getLsbD 0)) = true
      ↔ action = 3#2 ∨ (s.laneControl.enable = true ∧ value.getLsbD 0 = false) := by
    rw [Bool.or_eq_true, decide_eq_true_iff, Bool.and_eq_true, Bool.not_eq_true']
  have raised : ∀ x y : Bool, x ≠ y → ¬ (x = true ∧ y = false) → x = false ∧ y = true := by decide
  refine ⟨(s.writeLaneControl (withAction action value)).endedClean, carries (if_pos (limit.2 hnz)) (by decide),
    fun ha hsame => ?_, fun ha hchange => ?_, fun ha => ⟨_, rfl, ?_⟩, ?_⟩
  · have keeps := fun hr => Bool.false_ne_true (ha.symm.trans (resets.2 hr))
    rw [outcome, if_neg keeps, if_neg fun hc => Bool.false_ne_true (hc.1.symm.trans (hsame.trans hc.2))]
  · have keeps := fun hr => Bool.false_ne_true (ha.symm.trans (resets.2 hr))
    rw [outcome, if_neg keeps, if_pos (raised _ _ hchange fun hc => keeps (.inr hc)), Lane.enterSeek_eq]
  · rw [outcome, if_pos (resets.1 ha), State.laneReset_eq _ _ rfl, Lane.restart_eq, hwritten]
    rfl
  · have kept : (s.writeLaneControl (withAction action value)).laneControl = s.laneControl.written value trim := by
      rw [outcome]
      split
      · rw [State.laneReset_laneControl, hwritten]
        rfl
      · split <;> rw [hwritten] <;> rfl
    change readLaneControl (s.writeLaneControl _).laneControl = _
    rw [kept]
    exact readLaneControl_eq (s.laneControl.written value trim) value rfl rfl rfl

end Sys2Proof.Machine
end

section
/-! SUPPORT. The head records that the lane takes at once, a PAD, a reserved TYPE and a MARK with a slot free (R57,
R122), and the bits of a return message on LRET (R1, R52). -/

namespace Sys2Proof.Machine

/-! ### PAD and reserved TYPE (R57) -/

theorem State.padRecord_of_pad (s : State) (q : Byte) (r : UpdateRecord) (h : s.lane.head = some (q, r))
    (ht : r.type = .pad) : s.padRecord = s.depart .lane := by
  simp only [State.padRecord, h, ht, if_true, State.depart]

theorem State.padRecord_of_no_pad (s : State) (h : ∀ q r, s.lane.head = some (q, r) → r.type ≠ .pad) :
    s.padRecord = s := by
  rcases s.padRecord_cases with ⟨q, r, hh, ht, -⟩ | he
  · exact absurd ht (h q r hh)
  · exact he

theorem State.reservedRecord_of_reserved (s : State) (q : Byte) (r : UpdateRecord) (h : s.lane.head = some (q, r))
    (ht : r.type = .reserved) :
    s.reservedRecord = (((s.depart .lane).count .formatErrors).log
      (s.event .laneFormat .lane none (4#8 ++ q))).raise .laneError := by
  simp only [State.reservedRecord, h, ht, if_true, State.depart]

theorem State.reservedRecord_of_no_reserved (s : State) (h : ∀ q r, s.lane.head = some (q, r) → r.type ≠ .reserved) :
    s.reservedRecord = s := by
  rcases s.reservedRecord_cases with ⟨q, r, hh, ht, -⟩ | he
  · exact absurd ht (h q r hh)
  · exact he

/-! ### The registration of a marker (R122) -/

theorem State.markRecord_of_no_mark (s : State) (h : ∀ q r, s.lane.head = some (q, r) → r.type ≠ .mark) :
    s.markRecord = s := by
  rcases s.markRecord_cases with ⟨q, r, slot, hh, ht, -⟩ | ⟨-, he⟩
  · exact absurd ht (h q r hh)
  · exact he

/-- A MARK that finds both slots busy stays at the head. -/
theorem State.markRecord_of_busy (s : State) (h0 : s.markers.slot0.isSome = true) (h1 : s.markers.slot1.isSome = true) :
    s.markRecord = s := by
  obtain ⟨v, hv⟩ := Option.isSome_iff_exists.1 h0
  obtain ⟨w, hw⟩ := Option.isSome_iff_exists.1 h1
  rcases s.markRecord_cases with ⟨q, r, slot, -, -, hp, -⟩ | ⟨-, he⟩
  · simp [Markers.pick, hv, hw] at hp
  · exact he

/-- The slot of a marker: the free one, or of two free ones the one that was freed first. -/
theorem Markers.pick_of_free (m : Markers) (first : Bool)
    (hf : first = true ↔ m.slot0 = none ∧ (m.slot1 ≠ none ∨ m.freedFirst = .slot0))
    (hfree : m.slot0 = none ∨ m.slot1 = none) : m.pick = some (if first then .slot0 else .slot1) := by
  unfold Markers.pick
  cases h0 : m.slot0 with
  | some v =>
    obtain rfl : first = false := Bool.eq_false_iff.2 fun ht => by simpa [h0] using (hf.1 ht).1
    cases h1 : m.slot1 with
    | some w => simp [h0, h1] at hfree
    | none => rfl
  | none =>
    cases h1 : m.slot1 with
    | some w =>
      obtain rfl : first = true := hf.2 ⟨h0, .inl (by simp [h1])⟩
      rfl
    | none =>
      cases hm : m.freedFirst with
      | slot0 =>
        obtain rfl : first = true := hf.2 ⟨h0, .inr hm⟩
        rfl
      | slot1 =>
        obtain rfl : first = false := Bool.eq_false_iff.2 fun ht => by simpa [h1, hm] using (hf.1 ht).2
        rfl

/-- The registration of a marker with one change for each entry: one with source LANE joins the wait set, and is sealed
if it is in the list. -/
theorem State.registerMarker_eq (s : State) (slot : MarkerSlot) (value : Half) (wait : Entry → Entry)
    (hw : ∀ e, wait e = if e.fromLane then { e with waits := e.waits.addMark slot } else e) :
    s.registerMarker slot value = State.depart { s with
      markers := s.markers.occupy slot value
      entries := s.entries.map fun e => wait (if e.fromLane then { e with isSealed := true } else e)
      array := { s.array with op := s.array.op.map (ArrayOp.mapWithdrawn wait) } } .lane := by
  obtain rfl : wait = fun e => if e.fromLane then { e with waits := e.waits.addMark slot } else e := funext hw
  simp only [State.registerMarker, State.mapPresent, State.sealWhere, List.map_map]
  rfl

theorem State.markRecord_of_mark (s : State) (q : Byte) (r : UpdateRecord) (slot : MarkerSlot)
    (h : s.lane.head = some (q, r)) (ht : r.type = .mark) (hp : s.markers.pick = some slot) :
    s.markRecord = s.registerMarker slot r.bin := by
  simp only [State.markRecord, h, hp, ht, if_true]

/-! ### Return messages (R52) -/

/-- The bits of a byte, most significant bit first (R1). -/
theorem byteBits_eq (b : Byte) : byteBits b = [b.getLsbD 7, b.getLsbD 6, b.getLsbD 5, b.getLsbD 4, b.getLsbD 3,
    b.getLsbD 2, b.getLsbD 1, b.getLsbD 0] := rfl

theorem laneMessageByte_toNat (m : LaneMessage) : (laneMessageByte m).toNat =
    match m with | .retrain => 0x3C | .ready n => 0x90 + n.toNat | .credit => 0x6A := by
  cases m with
  | ready n =>
    have hn := n.isLt
    simp [laneMessageByte]
    omega
  | _ => rfl

theorem exec_returnMessage (s : State) (h : s.quiet) (m : LaneMessage) (rest : List LaneMessage)
    (hl : s.lane.lret = []) (hq : s.lane.returnQueue = m :: rest) :
    exec .returnMessage s
      = .next { s with lane := { s.lane with returnQueue := rest, lret := laneMessageBits m } } := by
  change execReturnMessage s = _
  rw [execReturnMessage, takeStep_of_quiet s _ h, hl, hq]

theorem exec_returnMessage_none (s : State) (h : s.quiet) (hn : s.lane.lret ≠ [] ∨ s.lane.returnQueue = []) :
    exec .returnMessage s = .next s := by
  change execReturnMessage s = _
  rw [execReturnMessage, takeStep_of_quiet s _ h]
  split
  · rename_i hl hq
    rcases hn with hn | hn
    · exact absurd hl hn
    · simp [hq] at hn
  · rfl
  · rfl

/-- Settles O31: each row by the TYPE of the head record, and the return channel by its queue and its bits. -/
theorem laneRecordsAndMessages : Obligations.LaneRecordsAndMessages := by
  intro s hh
  have row {t : State} (f : State → State) (ht : f s = t) : takeOutstanding s f = .next t := by
    rw [takeOutstanding_of_not_held s f hh, ht]
  refine ⟨fun q r hr => ⟨fun ht => row _ (s.padRecord_of_pad q r hr ht),
      fun ht => row _ (s.reservedRecord_of_reserved q r hr ht),
      fun ht => ⟨fun h0 h1 => row _ (s.markRecord_of_busy h0 h1), fun first m wait hfirst hfree hm hwait => ?_⟩, ?_⟩,
    fun hn => ?_, fun m rest byte hq hl hr hb => ?_, fun hq hn => exec_returnMessage_none s hq hn,
    fun hl => by rw [Lane.lretLevel, hl]; rfl, fun b rest hl => by rw [Lane.lretLevel, hl]; rfl⟩
  · have picked := Markers.pick_of_free s.markers first hfirst hfree
    refine row State.markRecord ?_
    rw [s.markRecord_of_mark q r _ hr ht picked, s.registerMarker_eq _ r.bin wait fun e => ?_, hm]
    · cases first <;> rfl
    · rw [hwait e]
      cases e.fromLane <;> cases first <;> rfl
  · have other {p : RecordType} (hp : r.type ≠ p) : ∀ q' r', s.lane.head = some (q', r') → r'.type ≠ p := by
      intro q' r' hr'
      cases hr.symm.trans hr'
      exact hp
    exact ⟨fun hp => row _ (s.padRecord_of_no_pad (other hp)),
      fun hp => row _ (s.reservedRecord_of_no_reserved (other hp)),
      fun hp => row _ (s.markRecord_of_no_mark (other hp))⟩
  · have absent {p : RecordType} : ∀ q r, s.lane.head = some (q, r) → r.type ≠ p := by
      intro q r hr
      cases hn.symm.trans hr
    exact ⟨row _ (s.padRecord_of_no_pad absent), row _ (s.reservedRecord_of_no_reserved absent),
      row _ (s.markRecord_of_no_mark absent)⟩
  · obtain rfl : byte = laneMessageByte m := BitVec.eq_of_toNat_eq (hb.trans (laneMessageByte_toNat m).symm)
    rw [exec_returnMessage s hq m rest hl hr, laneMessageBits, byteBits_eq]
    rfl

end Sys2Proof.Machine
end

section
/-! SUPPORT. The Region Table and the four region commands at their action moment: the checks of DEFINE (R81, R82), and what
DEFINE, INIT, ADOPT and RETIRE leave (R79, R83, R85, R86). -/

namespace Sys2Proof.Machine

/-! ### One slot of the Region Table (R76) -/

theorem State.region_setRegion (s : State) (r q : RegionIx) (g : Region) :
    (s.setRegion r g).region q = if r = q then g else s.region q := by
  refine (Vector.getElem_set r.isLt q.isLt).trans ?_
  simp only [← BitVec.toNat_eq]
  rfl

theorem State.region_setRegion_self (s : State) (r : RegionIx) (g : Region) : (s.setRegion r g).region r = g := by
  rw [State.region_setRegion, if_pos rfl]

/-! ### Words and extents (R78, R82) -/

theorem Format.words_pos (f : Format) : 1 ≤ f.words := by cases f <;> decide

theorem Descriptor.span_pos (d : Descriptor) : 1 ≤ d.span := Nat.mul_pos d.format.words_pos (Nat.succ_pos _)

/-- Two extents overlap when some word lies in both. -/
theorem Descriptor.overlaps_iff (d e : Descriptor) : d.overlaps e = true
    ↔ ∃ a, d.base.toNat ≤ a ∧ a < d.endWord ∧ e.base.toNat ≤ a ∧ a < e.endWord := by
  have hd := d.span_pos
  have he := e.span_pos
  rw [Descriptor.overlaps, Bool.and_eq_true, decide_eq_true_iff, decide_eq_true_iff]
  simp only [Descriptor.endWord]
  constructor
  · rintro ⟨h1, h2⟩
    exact ⟨max d.base.toNat e.base.toNat, by omega, by omega, by omega, by omega⟩
  · rintro ⟨a, h1, h2, h3, h4⟩
    omega

theorem Descriptor.overlaps_comm (d e : Descriptor) : d.overlaps e = e.overlaps d := Bool.and_comm _ _

/-- Another region that is not EMPTY overlaps (R81, R82). -/
theorem State.overlapsAnother_iff (s : State) (r : RegionIx) (d : Descriptor) : s.overlapsAnother r d = true
    ↔ ∃ q : RegionIx, q ≠ r ∧ (s.region q).state ≠ .empty ∧ d.overlaps (s.region q).desc = true := by
  simp only [State.overlapsAnother, List.any_eq_true, List.mem_range, Bool.and_eq_true, decide_eq_true_eq, and_assoc]
  constructor
  · rintro ⟨n, -, h⟩
    exact ⟨BitVec.ofNat 4 n, h⟩
  · rintro ⟨q, h⟩
    refine ⟨q.toNat, q.isLt, ?_⟩
    rwa [BitVec.ofNat_toNat, BitVec.setWidth_eq]

/-! ### The fields of a DEFINE (R34, R81) -/

theorem formatOfByte_eq_none_iff (b : Byte) : formatOfByte b = none ↔ 3 < b.toNat := by
  revert b
  decide

theorem formatCode_of_byte (b : Byte) (f : Format) (h : formatOfByte b = some f) : (formatCode f).toNat = b.toNat := by
  revert b f
  decide

theorem operatorOfByte_eq_none_iff (b : Byte) : operatorOfByte b = none ↔ 5 < b.toNat := by
  revert b
  decide

theorem operatorCode_of_byte (b : Byte) (o : Operator) (h : operatorOfByte b = some o) :
    (operatorCode o).toNat = b.toNat := by
  revert b o
  decide

theorem roundingOfByte_eq_none_iff (b : Byte) : roundingOfByte b = none ↔ 2 < b.toNat := by
  revert b
  decide

theorem roundingCode_of_byte (b : Byte) (r : Rounding) (h : roundingOfByte b = some r) :
    (roundingCode r).toNat = b.toNat := by
  revert b r
  decide

theorem operatorCode_eq_decayAdd_iff (o : Operator) : o = .decayAdd ↔ (operatorCode o).toNat = 5 := by
  cases o <;> decide

theorem Format.words_eq (f : Format) : f.words = if 2 ≤ (formatCode f).toNat then 2 else 1 := by cases f <;> rfl

/-- A field of a DEFINE is wrong (R81). -/
def RawDescriptor.WrongField (raw : RawDescriptor) : Prop :=
  3 < raw.format.toNat ∨ 5 < raw.operator.toNat ∨ 2 < raw.rounding.toNat ∨ 15 < raw.decayShift.toNat
    ∨ 7 < raw.inputShift.toNat ∨ raw.base.toNat % 8 ≠ 0 ∨ (raw.operator.toNat = 5 ∧ raw.decayShift.toNat = 0)

/-- The descriptor is the one that a DEFINE carries, with DECAY_SHIFT 0 unless the operator is DECAY_ADD, and with its
BASE cut to 21 bits (R81). -/
structure RawDescriptor.CarriedBy (raw : RawDescriptor) (d : Descriptor) : Prop where
  base : d.base = raw.base.extractLsb' 0 21
  binsMinus1 : d.binsMinus1 = raw.binsMinus1
  format : (formatCode d.format).toNat = raw.format.toNat
  operator : (operatorCode d.operator).toNat = raw.operator.toNat
  rounding : (roundingCode d.rounding).toNat = raw.rounding.toNat
  decayShift : d.decayShift.toNat = if raw.operator.toNat = 5 then raw.decayShift.toNat else 0
  inputShift : d.inputShift.toNat = raw.inputShift.toNat
  laneOk : d.laneOk = raw.permits.getLsbD 0
  hostOk : d.hostOk = raw.permits.getLsbD 1

/-- The field checks of a DEFINE give no descriptor when a field is wrong, and otherwise the one that it carries. -/
theorem RawDescriptor.checked_cases (raw : RawDescriptor) :
    (raw.WrongField ∧ raw.checked = none)
      ∨ (¬ raw.WrongField ∧ ∃ d, raw.CarriedBy d ∧ raw.checked = some (d, raw.base.toNat + d.span)) := by
  unfold RawDescriptor.checked
  cases hf : formatOfByte raw.format with
  | none => exact .inl ⟨.inl ((formatOfByte_eq_none_iff _).1 hf), rfl⟩
  | some f =>
  cases ho : operatorOfByte raw.operator with
  | none => exact .inl ⟨.inr (.inl ((operatorOfByte_eq_none_iff _).1 ho)), rfl⟩
  | some o =>
  cases hr : roundingOfByte raw.rounding with
  | none => exact .inl ⟨.inr (.inr (.inl ((roundingOfByte_eq_none_iff _).1 hr))), rfl⟩
  | some r =>
  have known : ¬ 3 < raw.format.toNat ∧ ¬ 5 < raw.operator.toNat ∧ ¬ 2 < raw.rounding.toNat := by
    rw [← formatOfByte_eq_none_iff, ← operatorOfByte_eq_none_iff, ← roundingOfByte_eq_none_iff, hf, ho, hr]
    exact ⟨nofun, nofun, nofun⟩
  have code := operatorCode_of_byte _ _ ho
  have wrong : (15 < raw.decayShift.toNat || 7 < raw.inputShift.toNat || raw.base.toNat % 8 != 0
      || (o = .decayAdd && raw.decayShift = 0#8)) = true ↔ raw.WrongField := by
    simp only [RawDescriptor.WrongField, known, false_or, Bool.or_eq_true, Bool.and_eq_true, decide_eq_true_eq, bne_iff_ne,
      or_assoc, operatorCode_eq_decayAdd_iff, code, BitVec.toNat_eq, BitVec.toNat_ofNat, Nat.zero_mod]
  dsimp only
  split
  · exact .inl ⟨wrong.1 ‹_›, rfl⟩
  · rename_i right
    rw [wrong] at right
    refine .inr ⟨right, _, ⟨rfl, rfl, formatCode_of_byte _ _ hf, code, roundingCode_of_byte _ _ hr, ?_, ?_, rfl, rfl⟩, rfl⟩
    · simp only [operatorCode_eq_decayAdd_iff, code]
      split
      · simp only [RawDescriptor.WrongField] at right
        simp only [BitVec.extractLsb'_toNat]
        omega
      · rfl
    · simp only [RawDescriptor.WrongField] at right
      simp only [BitVec.extractLsb'_toNat]
      omega

/-- The words that a carried descriptor spans (R78). -/
theorem RawDescriptor.CarriedBy.span {raw : RawDescriptor} {d : Descriptor} (h : raw.CarriedBy d) :
    d.span = (if 2 ≤ raw.format.toNat then 2 else 1) * (raw.binsMinus1.toNat + 1) := by
  rw [Descriptor.span, Descriptor.bins, Format.words_eq, h.format, h.binsMinus1]

/-- The BASE of a descriptor that ends inside the array loses nothing when it is cut to 21 bits. -/
theorem RawDescriptor.CarriedBy.base_toNat {raw : RawDescriptor} {d : Descriptor} (h : raw.CarriedBy d)
    (hin : raw.base.toNat + d.span ≤ Config.arrayWords) : d.base.toNat = raw.base.toNat := by
  have hs := d.span_pos
  simp only [Config.arrayWords] at hin
  rw [h.base]
  simp only [BitVec.extractLsb'_toNat]
  omega

/-! ### The checks of DEFINE in their order (R81) -/

theorem State.defineCheck_of_state (s : State) (r : RegionIx) (raw : RawDescriptor)
    (h : (s.region r).state = .initializing ∨ (s.region r).state = .live) : s.defineCheck r raw = .error .state := by
  simp [State.defineCheck, h]

theorem State.defineCheck_of_checked (s : State) (r : RegionIx) (raw : RawDescriptor)
    (h : ¬ ((s.region r).state = .initializing ∨ (s.region r).state = .live)) :
    s.defineCheck r raw = raw.checked.elim (.error .descriptor) fun x =>
      if Config.arrayWords < x.2 then .error .range
      else if s.overlapsAnother r x.1 then .error .overlap else .ok x.1 := by
  have hb : ((s.region r).state = .initializing || (s.region r).state = .live) = false := by simpa using h
  simp only [State.defineCheck, hb]
  cases raw.checked <;> rfl

/-- What holds of a descriptor that passes all the checks (R81, R82). -/
theorem State.defineCheck_ok (s : State) (r : RegionIx) (raw : RawDescriptor) (d : Descriptor)
    (h : s.defineCheck r raw = .ok d) :
    ((s.region r).state ≠ .initializing ∧ (s.region r).state ≠ .live) ∧ d.base.toNat % 8 = 0
      ∧ d.endWord ≤ Config.arrayWords
      ∧ ∀ q, q ≠ r → (s.region q).state ≠ .empty → d.overlaps (s.region q).desc = false := by
  by_cases hst : (s.region r).state = .initializing ∨ (s.region r).state = .live
  · rw [s.defineCheck_of_state r raw hst] at h
    cases h
  rw [s.defineCheck_of_checked r raw hst] at h
  rcases raw.checked_cases with ⟨-, hc⟩ | ⟨right, x, carried, hc⟩
  · rw [hc] at h
    cases h
  simp only [hc, Option.elim_some] at h
  split at h
  · cases h
  rename_i hin
  split at h
  · cases h
  rename_i hov
  cases h
  have base := carried.base_toNat (Nat.not_lt.1 hin)
  refine ⟨not_or.1 hst, ?_, ?_, fun q hq hne => ?_⟩
  · rw [base]
    by_contra hc
    exact right (.inr (.inr (.inr (.inr (.inr (.inl hc))))))
  · rw [Descriptor.endWord, base]
    exact Nat.not_lt.1 hin
  · exact Bool.eq_false_iff.2 fun ho => hov ((s.overlapsAnother_iff r d).2 ⟨q, hq, hne, ho⟩)

/-! ### The action moment (R80) -/

/-- The action of a region command does not rest on what the Region Controller holds. -/
theorem State.act_withController (s : State) (k : RegionController) (a : RegionCommand) :
    State.act { s with regionController := k } a = s.act a := by
  cases a <;> rfl

/-- The action of a region command changes the Region Table, the entries and the Region Controller, and nothing else. -/
theorem State.act_frame (s : State) (a : RegionCommand) : s.act a = { s with
    regions := (s.act a).regions, entries := (s.act a).entries, regionController := (s.act a).regionController } := by
  cases a with
  | define t r raw =>
    simp only [State.act, State.actDefine]
    split <;> rfl
  | init t r =>
    simp only [State.act, State.actInit]
    split <;> rfl
  | adopt t r =>
    simp only [State.act, State.actAdopt]
    split <;> rfl
  | retire t r =>
    simp only [State.act, State.actRetire]
    split
    · rfl
    · split <;> rfl

/-- With the array idle and no record parked, a region command that is handed over acts at once, and that is all. -/
theorem State.takeRegionCommand_calm (s : State) (a : RegionCommand) (ho : s.array.op = none) (hu : s.unparked) :
    s.takeRegionCommand a = s.act a := by
  obtain ⟨lane, host⟩ := hu
  have acted := s.act_frame a
  have reoffers : (s.act a).reofferParked = s.act a := by
    refine State.reofferParked_unparked _ ?_ ?_
    · rw [acted]
      exact lane
    · rw [acted]
      exact host
  have passes : State.passUnparked { s with regionController := .awaiting a }
      = { s with regionController := .awaiting a } := State.passUnparked_unparked _ lane host
  simp only [State.takeRegionCommand, ho, Option.isSome_none, Bool.false_eq_true, if_false, State.beforeAction, passes,
    State.actionMoment, State.act_withController, reoffers]

/-- The region command of a queued command of the four kinds (R34, R80). -/
def regionCommandOf (kind : CommandKind) (c : QueuedCommand) : RegionCommand :=
  match kind with
  | .init => .init c.ticket (paramRegion c.params)
  | .adopt => .adopt c.ticket (paramRegion c.params)
  | .retire => .retire c.ticket (paramRegion c.params)
  | _ => .define c.ticket (paramRegion c.params) (rawDescriptorOf c.params)

/-- The four rows of region commands hand the head command over to the Region Controller (R35, R80). -/
theorem exec_regionCommand {s : State} {row : Instr} {kind : CommandKind} {c : QueuedCommand}
    {rest : List QueuedCommand} (h : s.quiet) (hrow : dispatchedKind row = some kind)
    (hk : kind ∈ [CommandKind.define, .init, .adopt, .retire]) (hd : s.dispatches kind c rest) :
    exec row s = .next (State.takeRegionCommand { s with commands := rest } (regionCommandOf kind c)) := by
  cases row with
  | define =>
    cases hrow
    exact dispatch_of_dispatches (fun c s => s.takeRegionCommand (regionCommandOf .define c)) h hd
  | init =>
    cases hrow
    exact dispatch_of_dispatches (fun c s => s.takeRegionCommand (regionCommandOf .init c)) h hd
  | adopt =>
    cases hrow
    exact dispatch_of_dispatches (fun c s => s.takeRegionCommand (regionCommandOf .adopt c)) h hd
  | retire =>
    cases hrow
    exact dispatch_of_dispatches (fun c s => s.takeRegionCommand (regionCommandOf .retire c)) h hd
  | readBin | writeBin | sweep | cancelSweep | fence | retain =>
    cases hrow
    simp at hk
  | _ => cases hrow

/-- The four rows with the array idle and no record parked: the command acts, and that is all. -/
theorem exec_regionCommand_calm {s : State} {row : Instr} {kind : CommandKind} {c : QueuedCommand}
    {rest : List QueuedCommand} (h : s.quiet) (hu : s.unparked) (ho : s.array.op = none)
    (hrow : dispatchedKind row = some kind) (hk : kind ∈ [CommandKind.define, .init, .adopt, .retire])
    (hd : s.dispatches kind c rest) :
    exec row s = .next (State.act { s with commands := rest } (regionCommandOf kind c)) := by
  rw [exec_regionCommand h hrow hk hd, State.takeRegionCommand_calm { s with commands := rest } _ ho hu]

/-- Settles O23: the first check that fails answers, and a descriptor that passes them all is stored. -/
theorem defineChecksAndStores : Obligations.DefineChecksAndStores := by
  intro c rest s r raw span wrongState wrongField beyond overlap hq hu ho hd hr hraw hspan hstate hfield hbeyond hoverlap
  subst hr hraw
  generalize hr : paramRegion c.params = r at *
  generalize hraw : rawDescriptorOf c.params = raw at *
  have hx : exec .define s = .next (State.actDefine { s with commands := rest } c.ticket r raw) := by
    rw [exec_regionCommand_calm hq hu ho rfl (by simp) hd, ← hr, ← hraw]
    rfl
  have fails (e : Result) (he : s.defineCheck r raw = .error e) :
      State.actDefine { s with commands := rest } c.ticket r raw = { s with
        commands := rest, regionController := .posting (plainCompletion c.ticket e) false } := by
    simp only [State.actDefine, show State.defineCheck { s with commands := rest } r raw = _ from he]
    rfl
  refine ⟨_, hx, fun hs => fails _ (s.defineCheck_of_state r raw (hstate.1 hs)), fun hs hf => fails _ ?_,
    fun hs hf hb => fails _ ?_, fun hs hf hb hv => fails _ ?_, fun hs hf hb hv => ?_⟩
  all_goals
    have check := s.defineCheck_of_checked r raw (mt hstate.2 hs)
    rw [show wrongField ↔ raw.WrongField from hfield] at hf
  · rcases raw.checked_cases with ⟨-, hc⟩ | ⟨right, -⟩
    · rw [check, hc]
      rfl
    · exact absurd hf right
  all_goals
    rcases raw.checked_cases with ⟨wrong, -⟩ | ⟨-, d, carried, hc⟩
    · exact absurd wrong hf
    obtain rfl : d.span = span := carried.span.trans hspan.symm
    have hpos := d.span_pos
    have hin : beyond ↔ Config.arrayWords < raw.base.toNat + d.span := by
      rw [hbeyond, Config.arrayWords]
      omega
    rw [hin] at hb
    simp only [hc, Option.elim_some] at check
  · rw [check, if_pos hb]
  all_goals
    have base := carried.base_toNat (Nat.not_lt.1 hb)
    have shares : overlap ↔ s.overlapsAnother r d = true := by
      rw [hoverlap, State.overlapsAnother_iff]
      simp only [Descriptor.overlaps_iff, Descriptor.endWord, base, exists_and_left]
    rw [shares] at hv
  · rw [check, if_neg hb, if_pos hv]
  · rw [if_neg hb, if_neg hv] at check
    refine ⟨d, base, carried.binsMinus1, carried.format, carried.operator, carried.rounding, carried.decayShift,
      carried.inputShift, carried.laneOk, carried.hostOk, ?_⟩
    simp only [State.actDefine, show State.defineCheck { s with commands := rest } r raw = _ from check]
    rfl

/-- RETIRE waits for the sweeps of its region (R86). -/
theorem State.hasSweepOf_iff (s : State) (r : RegionIx) : s.hasSweepOf r = true ↔ ∃ w ∈ s.sweeps, w.region = r := by
  simp [State.hasSweepOf]

/-- Settles O24: each command by the state of its region. -/
theorem initAdoptAndRetireAct : Obligations.InitAdoptAndRetireAct := by
  intro c rest s r answer hq hu ho hr hanswer
  subst hr
  refine ⟨fun hd => ?init, fun hd => ?adopt, fun hd => ?retire⟩
  case init =>
    rw [exec_regionCommand_calm hq hu ho rfl (by simp) hd, hanswer]
    exact ⟨fun h => congrArg Host.Outcome.next (if_pos h), fun h => congrArg Host.Outcome.next (if_neg h)⟩
  case adopt =>
    rw [exec_regionCommand_calm hq hu ho rfl (by simp) hd, hanswer, hanswer]
    exact ⟨fun h => congrArg Host.Outcome.next (if_pos h), fun h => congrArg Host.Outcome.next (if_neg h)⟩
  case retire =>
    have hx := exec_regionCommand_calm hq hu ho (row := .retire) rfl (by simp) hd
    refine ⟨fun h => ?_, fun h => ⟨fun hw => ?_, fun hw => ?_⟩⟩
    · have gone : ((s.region (paramRegion c.params)).state = .empty
          || (s.region (paramRegion c.params)).state = .initializing) = true := by simpa using h
      rw [hx, hanswer]
      exact congrArg Host.Outcome.next (if_pos gone)
    all_goals
      have kept : ¬ ((s.region (paramRegion c.params)).state = .empty
          || (s.region (paramRegion c.params)).state = .initializing) = true := by
        rcases h with h | h <;> simp [h]
      rw [hx, hanswer]
      refine congrArg Host.Outcome.next ((if_neg kept).trans ?_)
    · exact if_pos ((s.hasSweepOf_iff _).2 hw)
    · refine if_neg fun h => ?_
      obtain ⟨w, hm, hwr⟩ := (s.hasSweepOf_iff _).1 h
      exact hw w hm hwr

end Sys2Proof.Machine
end

section
/-! SUPPORT. Where regions, entries, sweeps and fills lie (R77 to R83): what of the state the placement rests on, and that
the steps of the acceptance point, of the lane and of a moment's end keep it. -/

namespace Sys2Proof.Machine

/-! ### What the placement rests on -/

/-- All that the placement of a state rests on: state and descriptor of each region, region, bin and operator of each entry
of the list, region and LAST of each sweep, and the Region Controller. -/
@[ext] structure Places where
  regions : RegionIx → RegionState × Descriptor
  entries : List (RegionIx × BinIx × Operator)
  sweeps : List (RegionIx × BinIx)
  controller : RegionController

def Region.site (g : Region) : RegionState × Descriptor := (g.state, g.desc)

def Entry.site (e : Entry) : RegionIx × BinIx × Operator := (e.region, e.bin, e.operator)

def Sweep.site (w : Sweep) : RegionIx × BinIx := (w.region, w.last)

def State.places (s : State) : Places where
  regions r := (s.region r).site
  entries := s.entries.map Entry.site
  sweeps := s.sweeps.map Sweep.site
  controller := s.regionController

/-- The entry or the operation of a bin is of a LIVE region that contains it. -/
def Places.holdsBin (p : Places) (r : RegionIx) (b : BinIx) : Prop :=
  (p.regions r).1 = .live ∧ b ≤ (p.regions r).2.binsMinus1

/-- `State.placed` in the terms of the places alone, with its parts named. -/
structure Places.Sound (p : Places) : Prop where
  inside : ∀ r, (p.regions r).1 ≠ .empty →
    (p.regions r).2.base.toNat % 8 = 0 ∧ (p.regions r).2.endWord ≤ Config.arrayWords
  apart : ∀ r q, r ≠ q → (p.regions r).1 ≠ .empty → (p.regions q).1 ≠ .empty →
    (p.regions r).2.overlaps (p.regions q).2 = false
  entries : ∀ e ∈ p.entries, p.holdsBin e.1 e.2.1 ∧ e.2.2 = (p.regions e.1).2.operator
  sweeps : ∀ w ∈ p.sweeps, p.holdsBin w.1 w.2
  fill : ∀ t r b, p.controller = .filling t r b →
    (p.regions r).1 = .initializing ∧ b ≤ (p.regions r).2.binsMinus1.toNat

theorem State.fillPlaced_iff (s : State) : s.fillPlaced = true ↔ ∀ t r b, s.regionController = .filling t r b →
    (s.region r).state = .initializing ∧ b ≤ (s.region r).desc.binsMinus1.toNat := by
  unfold State.fillPlaced
  cases s.regionController <;> simp

theorem State.placed_iff (s : State) : s.placed ↔ s.places.Sound := by
  constructor
  · rintro ⟨⟨inside, apart⟩, entries, sweeps, fill⟩
    refine ⟨inside, apart, ?_, ?_, s.fillPlaced_iff.1 fill⟩
    · intro e he
      obtain ⟨e, hm, rfl⟩ := List.mem_map.1 he
      obtain ⟨live, bin, operator⟩ := entries e hm
      exact ⟨⟨live, bin⟩, operator⟩
    · intro w hw
      obtain ⟨w, hm, rfl⟩ := List.mem_map.1 hw
      exact sweeps w hm
  · rintro ⟨inside, apart, entries, sweeps, fill⟩
    refine ⟨⟨inside, apart⟩, fun e he => ?_, fun w hw => sweeps _ (List.mem_map_of_mem hw), s.fillPlaced_iff.2 fill⟩
    obtain ⟨⟨live, bin⟩, operator⟩ := entries _ (List.mem_map_of_mem he)
    exact ⟨live, bin, operator⟩

/-! ### What leaves the places as they are -/

/-- Entries that keep their bin and operator keep their places. -/
theorem State.places_mapEntries (s : State) (f : Entry → Entry) (h : ∀ e, (f e).site = e.site) :
    State.places { s with entries := s.entries.map f } = s.places := by
  have same : (s.entries.map f).map Entry.site = s.entries.map Entry.site := by simp [h]
  simp only [State.places, same]
  rfl

/-- A region that keeps its state and its descriptor keeps its place. -/
theorem State.places_setRegion (s : State) (r : RegionIx) (g : Region) (h : g.site = (s.region r).site) :
    (s.setRegion r g).places = s.places := by
  have same (q : RegionIx) : ((s.setRegion r g).region q).site = (s.region q).site := by
    rw [State.region_setRegion]
    split
    · rename_i hq
      rw [← hq, h]
    · rfl
  simp only [State.places, same]
  rfl

theorem State.places_sweeps (s : State) (l : List Sweep) (h : l.map Sweep.site = s.sweeps.map Sweep.site) :
    State.places { s with sweeps := l } = s.places := by
  simp only [State.places, h]
  rfl

@[simp] theorem State.count_places (s : State) (c : StatCounter) : (s.count c).places = s.places := rfl

@[simp] theorem State.raise_places (s : State) (c : AlertCause) : (s.raise c).places = s.places := rfl

@[simp] theorem State.endMoment_places (s : State) : s.endMoment.places = s.places := rfl

@[simp] theorem State.log_places (s : State) (e : Event) : (s.log e).places = s.places := by
  rcases s.log_cases e with ⟨-, he⟩ | ⟨-, he⟩ <;> rw [he] <;> rfl

@[simp] theorem State.hostError_places (s : State) (opcode reason : Byte) :
    (s.hostError opcode reason).places = s.places := by
  simp [State.hostError]

@[simp] theorem State.credit_places (s : State) : s.credit.places = s.places := by
  unfold State.credit
  split <;> rfl

@[simp] theorem State.laneHandled_places (s : State) : s.laneHandled.places = s.places := by
  unfold State.laneHandled
  dsimp only
  split
  · exact State.credit_places _
  · rfl

@[simp] theorem State.padRecord_places (s : State) : s.padRecord.places = s.places := by
  rcases s.padRecord_cases with ⟨q, r, -, -, he⟩ | he <;> simp [he]

@[simp] theorem State.reservedRecord_places (s : State) : s.reservedRecord.places = s.places := by
  rcases s.reservedRecord_cases with ⟨q, r, -, -, he⟩ | he <;> simp [he]

@[simp] theorem State.ownRecords_places (s : State) (n : Nat) : (s.ownRecords n).places = s.places := by
  induction n generalizing s with
  | zero => rfl
  | succ n ih =>
    unfold State.ownRecords
    split
    · simp [ih]
    · rfl

@[simp] theorem State.handleOwn_places (s : State) : s.handleOwn.places = s.places := s.ownRecords_places _

@[simp] theorem State.sealWhere_places (s : State) (p : Entry → Bool) : (s.sealWhere p).places = s.places :=
  s.places_mapEntries _ fun e => by split <;> rfl

theorem State.mapPresent_places (s : State) (f : Entry → Entry) (h : ∀ e, (f e).site = e.site) :
    (s.mapPresent f).places = s.places :=
  (rfl : (s.mapPresent f).places = State.places { s with entries := s.entries.map f }).trans (s.places_mapEntries f h)

@[simp] theorem State.registerMarker_places (s : State) (slot : MarkerSlot) (value : Half) :
    (s.registerMarker slot value).places = s.places := by
  have joined := State.mapPresent_places (s.sealWhere Entry.fromLane)
    (fun e => if e.fromLane then { e with waits := e.waits.addMark slot } else e) fun e => by split <;> rfl
  exact (State.laneHandled_places _).trans (joined.trans (s.sealWhere_places _))

@[simp] theorem State.markRecord_places (s : State) : s.markRecord.places = s.places := by
  rcases s.markRecord_cases with ⟨q, r, slot, -, -, -, -, he⟩ | ⟨-, he⟩ <;> simp [he]

@[simp] theorem State.takeHeads_places (s : State) : s.takeHeads.places = s.places := by
  have heads (n : Nat) (t : State) : (t.headRecords n).places = t.places := by
    induction n generalizing t with
    | zero => rfl
    | succ n ih =>
      unfold State.headRecords
      split
      · simp [ih]
      · rfl
  exact heads _ s

@[simp] theorem State.endOfInitialisation_places (s : State) : s.endOfInitialisation.places = s.places := by
  unfold State.endOfInitialisation
  split
  · rfl
  · simp only [State.raise_places, State.log_places]
    rfl

@[simp] theorem State.stallReport_places (s : State) : s.stallReport.places = s.places := by
  unfold State.stallReport
  split
  · rfl
  · simp only [State.raise_places, State.log_places]
    rfl

@[simp] theorem State.lingerTick_places (s : State) : s.lingerTick.places = s.places := by
  unfold State.lingerTick
  split
  · exact s.places_mapEntries _ fun e => rfl
  · rfl

@[simp] theorem State.refreshDue_places (s : State) : s.refreshDue.places = s.places := by
  unfold State.refreshDue
  dsimp only
  split
  · split
    · rfl
    · simp only [State.raise_places, State.log_places, State.count_places]
      rfl
  · rfl

@[simp] theorem State.seekRepeat_places (s : State) : s.seekRepeat.places = s.places := by
  unfold State.seekRepeat
  split <;> rfl

@[simp] theorem State.trainTimeout_places (s : State) : s.trainTimeout.places = s.places := by
  unfold State.trainTimeout
  split <;> rfl

@[simp] theorem State.sweepStart_places (s : State) : s.sweepStart.places = s.places := by
  unfold State.sweepStart
  split
  · rfl
  · rename_i w rest hw
    split
    · have started (l : List Entry) (u : SweepState) :
          State.places { s with sweeps := { w with state := u } :: rest, entries := l }
            = State.places { s with entries := l } :=
        State.places_sweeps { s with entries := l } _ (by rw [hw]; rfl)
      refine (started _ _).trans ?_
      split
      · exact s.places_mapEntries _ fun e => by split <;> rfl
      · rfl
    · rfl

@[simp] theorem State.terminalRecord_places (s : State) : s.terminalRecord.places = s.places := by
  cases h : s.terminalDue
  · rw [s.terminalRecord_of_not_due h]
  · obtain ⟨w, rest, hw, -, he⟩ := s.terminalRecord_of_due h
    rw [he]
    exact State.places_sweeps (s.placeRecord (terminalRecordOf w)) _ (by rw [State.placeRecord_sweeps, hw]; rfl)

@[simp] theorem State.settle_places (s : State) : s.settle.places = s.places := by simp [State.settle]

/-! ### The frames of the lane (R51, R60 to R70, R72) -/

@[simp] theorem State.trainingFailed_places (s : State) : s.trainingFailed.places = s.places := by
  simp only [State.trainingFailed, State.raise_places, State.log_places]
  rfl

@[simp] theorem State.trainFrame_places (s : State) (f : Frame) : (s.trainFrame f).places = s.places := by
  have judged (t : State) : t.trimJudged.places = t.places := by
    unfold State.trimJudged
    dsimp only
    split
    · split
      · split
        · rfl
        · exact State.trainingFailed_places _
      · rfl
    · split
      · exact State.trainingFailed_places _
      · rfl
  unfold State.trainFrame
  dsimp only
  split
  · rfl
  · split
    · rfl
    · exact judged _

@[simp] theorem State.frameDropped_places (s : State) : s.frameDropped.places = s.places := by
  have kept (t : State) (l : Lane) : State.places { t with lane := l } = t.places := rfl
  have reported (n : BitVec 4) : (s.reported n).places = s.places := rfl
  by_cases h : s.laneControl.errLimit ≤ satInc s.lane.errors
  · rw [s.frameDropped_retrain _ rfl h]
    exact (kept _ _).trans (by simp [reported])
  · rw [s.frameDropped_credit _ rfl (BitVec.not_le.1 h), State.credit_places, reported]

@[simp] theorem State.lockedFrame_places (s : State) (f : Frame) : (s.lockedFrame f).places = s.places := by
  have dropped (c : StatCounter) (e : Event) : ((s.count c).log e).frameDropped.places = s.places := by simp
  unfold State.lockedFrame
  split
  · simp [State.overrun, State.laneEvent]
  split
  · exact dropped _ _
  split
  · exact dropped _ _
  split
  · rfl
  split
  · exact dropped _ _
  split
  · rw [s.acceptFrame_eq _ f rfl]
    split
    · rfl
    · simp only [State.raise_places, State.log_places, State.count_places]
      rfl
  · exact dropped _ _

@[simp] theorem State.lclkEdges_places (s : State) (xs : List LaneSample) : (s.lclkEdges xs).places = s.places := by
  have arrives (t : State) (f : Frame) : (t.frameArrives f).places = t.places := by
    unfold State.frameArrives
    split
    · rfl
    · rfl
    · unfold State.seekFrame
      split <;> rfl
    · exact t.trainFrame_places f
    · exact t.lockedFrame_places f
  have sampled (t : State) (x : LaneSample) : (t.samplePins x).places = t.places := by
    unfold State.samplePins
    split
    case h_3 => exact arrives _ _
    all_goals rfl
  have edge (t : State) (x : LaneSample) : (t.lclkEdge x).places = t.places := by
    unfold State.lclkEdge
    dsimp only
    split
    · rfl
    · exact sampled _ x
  unfold State.lclkEdges
  induction xs generalizing s with
  | nil => rfl
  | cons x xs ih => rw [List.foldl_cons, ih, edge, s.settle_places]

@[simp] theorem State.laneReset_places (s : State) : s.laneReset.places = s.places := by
  rw [State.laneReset_eq _ _ rfl]
  split
  · simp only [State.raise_places, State.log_places]
    rfl
  · simp only [State.log_places]
    rfl

end Sys2Proof.Machine
end

section
/-! SUPPORT. Placed states row by row: what the acceptance point, the region commands, the grants and the completions make
of a placement, and that no step from a placed state faults or refuses (R78 to R86, R128, R142). -/

namespace Sys2Proof.Machine

/-! ### Changes of the places that keep them sound -/

/-- Entries and sweeps may leave. -/
theorem Places.Sound.fewer {p : Places} (h : p.Sound) {entries : List (RegionIx × BinIx × Operator)}
    {sweeps : List (RegionIx × BinIx)} (he : ∀ e ∈ entries, e ∈ p.entries) (hw : ∀ w ∈ sweeps, w ∈ p.sweeps) :
    Places.Sound { p with entries, sweeps } :=
  { h with
    entries := fun e hm => h.entries e (he e hm)
    sweeps := fun w hm => h.sweeps w (hw w hm) }

/-- The Region Controller may take up anything but a fill. -/
theorem Places.Sound.withController {p : Places} (h : p.Sound) (k : RegionController)
    (hk : ∀ t r b, k ≠ .filling t r b) : Places.Sound { p with controller := k } :=
  { h with fill := fun t r b he => absurd he (hk t r b) }

/-- A region that is not LIVE has no entries and no sweeps. -/
theorem Places.Sound.absent {p : Places} (h : p.Sound) (r : RegionIx) (hr : (p.regions r).1 ≠ .live) :
    (∀ e ∈ p.entries, e.1 ≠ r) ∧ ∀ w ∈ p.sweeps, w.1 ≠ r := by
  refine ⟨fun e he heq => ?_, fun w hw heq => ?_⟩
  · obtain ⟨⟨live, -⟩, -⟩ := h.entries e he
    exact hr (heq ▸ live)
  · obtain ⟨live, -⟩ := h.sweeps w hw
    exact hr (heq ▸ live)

/-- The places with another state and descriptor for one region, which the entries, the sweeps and a fill of others do not
name. -/
def Places.setSite (p : Places) (r : RegionIx) (x : RegionState × Descriptor) (k : RegionController) : Places :=
  { p with regions := fun q => if r = q then x else p.regions q, controller := k }

/-- A region that no entry and no sweep names may change to a site inside the array and apart from the others. -/
theorem Places.Sound.setSite {p : Places} (h : p.Sound) {r : RegionIx} {x : RegionState × Descriptor}
    {k : RegionController} (hin : x.1 ≠ .empty → x.2.base.toNat % 8 = 0 ∧ x.2.endWord ≤ Config.arrayWords)
    (hap : x.1 ≠ .empty → ∀ q, q ≠ r → (p.regions q).1 ≠ .empty → x.2.overlaps (p.regions q).2 = false)
    (he : ∀ e ∈ p.entries, e.1 ≠ r) (hw : ∀ w ∈ p.sweeps, w.1 ≠ r)
    (hk : ∀ t q b, k = .filling t q b → q = r ∧ x.1 = .initializing ∧ b ≤ x.2.binsMinus1.toNat) :
    (p.setSite r x k).Sound where
  inside q hq := by
    simp only [Places.setSite] at hq ⊢
    split at hq
    · rw [if_pos ‹_›]
      exact hin hq
    · rw [if_neg ‹_›]
      exact h.inside q hq
  apart q i hne hq hi := by
    simp only [Places.setSite] at hq hi ⊢
    by_cases hrq : r = q <;> by_cases hri : r = i
    · exact absurd (hrq.symm.trans hri) hne
    · rw [if_pos hrq] at hq ⊢
      rw [if_neg hri] at hi ⊢
      exact hap hq i (Ne.symm hri) hi
    · rw [if_neg hrq] at hq ⊢
      rw [if_pos hri] at hi ⊢
      rw [Descriptor.overlaps_comm]
      exact hap hi q (Ne.symm hrq) hq
    · rw [if_neg hrq] at hq ⊢
      rw [if_neg hri] at hi ⊢
      exact h.apart q i hne hq hi
  entries e hm := by
    have other : ¬ r = e.1 := fun hr => he e hm hr.symm
    simp only [Places.holdsBin, Places.setSite, if_neg other]
    exact h.entries e hm
  sweeps w hm := by
    have other : ¬ r = w.1 := fun hr => hw w hm hr.symm
    simp only [Places.holdsBin, Places.setSite, if_neg other]
    exact h.sweeps w hm
  fill t q b hf := by
    obtain ⟨rfl, hx⟩ := hk t q b hf
    simp only [Places.setSite, if_true]
    exact hx

/-- A region that keeps its descriptor while it is not EMPTY stays inside the array and apart from the others. -/
theorem Places.Sound.setState {p : Places} (h : p.Sound) {r : RegionIx} (st : RegionState) {k : RegionController}
    (hr : (p.regions r).1 ≠ .empty) (he : ∀ e ∈ p.entries, e.1 ≠ r) (hw : ∀ w ∈ p.sweeps, w.1 ≠ r)
    (hk : ∀ t q b, k = .filling t q b → q = r ∧ st = .initializing ∧ b ≤ (p.regions r).2.binsMinus1.toNat) :
    (p.setSite r (st, (p.regions r).2) k).Sound :=
  h.setSite (fun _ => h.inside r hr) (fun _ q hq hne => h.apart r q hq.symm hr hne) he hw hk

theorem State.places_setSite (s : State) (r : RegionIx) (g : Region) (k : RegionController) :
    State.places { s.setRegion r g with regionController := k } = s.places.setSite r g.site k := by
  have sites (q : RegionIx) : ((s.setRegion r g).region q).site = if r = q then g.site else (s.region q).site := by
    rw [State.region_setRegion]
    split <;> rfl
  refine Places.ext (funext sites) rfl rfl rfl

/-! ### Counters inside the array (R78, R142) -/

/-- A bin that a region holds has its counter inside the region's words. -/
theorem counterLastWord_lt (d : Descriptor) (b : BinIx) (hb : b ≤ d.binsMinus1) : counterLastWord d b < d.endWord := by
  have hw := d.format.words_pos
  have room : d.format.words * (b.toNat + 1) ≤ d.format.words * (d.binsMinus1.toNat + 1) :=
    Nat.mul_le_mul_left _ (Nat.succ_le_succ hb)
  rw [Nat.mul_add] at room
  simp only [counterLastWord, counterAddress, Descriptor.endWord, Descriptor.span, Descriptor.bins]
  omega

/-- Every counter of a region that is not EMPTY lies inside the array. -/
theorem Places.Sound.counterInside {p : Places} (h : p.Sound) {r : RegionIx} {b : BinIx} (hr : (p.regions r).1 ≠ .empty)
    (hb : b ≤ (p.regions r).2.binsMinus1) : counterLastWord (p.regions r).2 b < Config.arrayWords :=
  (counterLastWord_lt _ _ hb).trans_le (h.inside r hr).2

section
variable {s : State}

/-! ### The acceptance point (R88 to R90, R110) -/

@[simp] theorem State.depart_places (s : State) (src : Source) : (s.depart src).places = s.places := by
  cases src
  · exact s.laneHandled_places
  · rfl

@[simp] theorem State.park_places (s : State) (src : Source) : (s.park src).places = s.places := by
  cases src <;> rfl

@[simp] theorem State.reject_places (s : State) (src : Source) (r : HostRecord) (reason : Byte) :
    (s.reject src r reason).places = s.places := by
  have counted : (s.setRegion r.region { s.region r.region with
      rejectCount := satInc (s.region r.region).rejectCount, rejectSeen := true }).places = s.places :=
    s.places_setRegion _ _ rfl
  unfold State.reject
  dsimp only
  split
  · rw [State.depart_places, counted]
  · rw [State.log_places, State.depart_places, counted]

/-- A new entry is of the LIVE region and of the bin that the update names (R89, R95, R110). -/
theorem State.openEntry_sound (h : s.places.Sound) (src : Source) (r : HostRecord) (v : Int)
    (hr : rejectReason (s.region r.region) src r.bin = none) : (s.openEntry src r v).places.Sound := by
  obtain ⟨live, -, -, hb⟩ := rejectReason_none _ _ _ hr
  unfold State.openEntry
  split
  · rw [State.depart_places]
    refine { h with entries := fun e he => ?_ }
    obtain ⟨f, hf, rfl⟩ := List.mem_map.1 he
    rcases List.mem_append.1 hf with hf | hf
    · exact h.entries _ (List.mem_map_of_mem hf)
    · obtain rfl := List.mem_singleton.1 hf
      exact ⟨⟨live, hb⟩, rfl⟩
  · rw [State.park_places]
    exact h

theorem State.place_sound (h : s.places.Sound) (src : Source) (r : HostRecord) (v : Int)
    (hr : rejectReason (s.region r.region) src r.bin = none) : (s.place src r v).places.Sound := by
  rcases s.place_cases src r v with ⟨_, -, -, he⟩ | ⟨-, he⟩ | ⟨_, -, -, he⟩ <;> rw [he]
  · rw [State.depart_places, s.places_mapEntries]
    · exact h
    · intro e
      split <;> rfl
  · exact State.openEntry_sound h src r v hr
  · refine State.openEntry_sound ?_ src r v hr
    rw [State.sealWhere_places]
    exact h

theorem State.offer_sound (h : s.places.Sound) (src : Source) : (s.offer src).1.places.Sound := by
  rcases s.offer_cases src with ⟨-, he⟩ | ⟨r, reason, -, -, he⟩ | ⟨r, -, hr, he⟩ <;> rw [he]
  · exact h
  · rw [State.reject_places]
    exact h
  · exact State.place_sound h src r _ hr

theorem State.round_sound (h : s.places.Sound) (laneReady hostReady : Bool) :
    (s.round laneReady hostReady).state.places.Sound := by
  have turned (t : Source) : (State.places { s with turn := t }).Sound := h
  unfold State.round
  split
  · split
    · exact State.offer_sound (State.offer_sound (turned _) _) _
    · exact State.offer_sound (State.offer_sound (turned _) _) _
  · split
    · exact State.offer_sound (turned _) _
    · split
      · exact State.offer_sound (turned _) _
      · exact h

theorem State.offers_sound (h : s.places.Sound) (laneReady hostReady : Bool) :
    (s.offers laneReady hostReady).places.Sound := by
  have rounds (n : Nat) (t : State) (ht : t.places.Sound) (l k : Bool) : (t.rounds l k n).places.Sound := by
    induction n generalizing t l k with
    | zero => exact ht
    | succ n ih =>
      have after : (State.places (if (t.round l k).laneRejected then (t.round l k).state.handleOwn
          else (t.round l k).state)).Sound := by
        split
        · rw [State.handleOwn_places]
          exact State.round_sound ht l k
        · exact State.round_sound ht l k
      unfold State.rounds
      dsimp only
      split
      · exact ih _ after _ _
      · exact after
  exact rounds _ s h _ _

/-! ### The Region Controller (R80 to R86) -/

theorem State.regionResult_sound (h : s.places.Sound) (t : Ticket) (e : Result) : (s.regionResult t e).places.Sound :=
  h.withController _ nofun

/-- A DEFINE stores a descriptor inside the array and apart from the others (R81, R82). -/
theorem State.actDefine_sound (h : s.places.Sound) (t : Ticket) (r : RegionIx) (raw : RawDescriptor) :
    (s.actDefine t r raw).places.Sound := by
  unfold State.actDefine
  split
  · exact State.regionResult_sound h t _
  · rename_i d hd
    obtain ⟨⟨-, notLive⟩, hbase, hend, apart⟩ := s.defineCheck_ok r raw d hd
    obtain ⟨noEntry, noSweep⟩ := h.absent r notLive
    rw [State.regionResult, s.places_setSite]
    exact h.setSite (fun _ => ⟨hbase, hend⟩) (fun _ => apart) noEntry noSweep nofun

/-- A fill starts at bin 0 of a region that was DEFINED (R83). -/
theorem State.actInit_sound (h : s.places.Sound) (t : Ticket) (r : RegionIx) : (s.actInit t r).places.Sound := by
  unfold State.actInit
  split
  · rename_i hr
    obtain ⟨noEntry, noSweep⟩ := h.absent r (hr.trans_ne (by decide))
    rw [State.setRegionState, s.places_setSite]
    refine h.setState .initializing (hr.trans_ne (by decide)) noEntry noSweep fun t q b hf => ?_
    cases hf
    exact ⟨rfl, rfl, Nat.zero_le _⟩
  · exact State.regionResult_sound h t _

theorem State.actAdopt_sound (h : s.places.Sound) (t : Ticket) (r : RegionIx) : (s.actAdopt t r).places.Sound := by
  unfold State.actAdopt
  split
  · rename_i hr
    obtain ⟨noEntry, noSweep⟩ := h.absent r (hr.trans_ne (by decide))
    rw [State.regionResult, State.setRegionState, s.places_setSite]
    exact h.setState .live (hr.trans_ne (by decide)) noEntry noSweep nofun
  · exact State.regionResult_sound h t _

/-- A retired region leaves without entries and without sweeps (R86). -/
theorem State.actRetire_sound (h : s.places.Sound) (t : Ticket) (r : RegionIx) : (s.actRetire t r).places.Sound := by
  unfold State.actRetire
  split
  · exact State.regionResult_sound h t _
  split
  · exact State.regionResult_sound h t _
  · rename_i hsw
    have kept : (State.places { s with entries := s.entries.filter fun e => e.region ≠ r }).Sound :=
      h.fewer (fun _ he => List.map_subset _ List.filter_sublist.subset he) fun _ hw => hw
    have gone := State.places_setSite { s with entries := s.entries.filter fun e => e.region ≠ r } r
      { s.region r with state := .empty } (.posting (plainCompletion t .ok) false)
    refine gone.symm ▸ kept.setSite (fun hc => absurd rfl hc) (fun hc => absurd rfl hc) ?_ ?_ nofun
    · intro e he
      obtain ⟨f, hf, rfl⟩ := List.mem_map.1 he
      exact of_decide_eq_true (List.mem_filter.1 hf).2
    · intro w hw heq
      obtain ⟨v, hv, rfl⟩ := List.mem_map.1 hw
      exact hsw ((s.hasSweepOf_iff r).2 ⟨v, hv, heq⟩)

theorem State.act_sound (h : s.places.Sound) (a : RegionCommand) : (s.act a).places.Sound := by
  cases a with
  | define t r raw => exact State.actDefine_sound h t r raw
  | init t r => exact State.actInit_sound h t r
  | adopt t r => exact State.actAdopt_sound h t r
  | retire t r => exact State.actRetire_sound h t r

theorem State.beforeAction_sound (h : s.places.Sound) : s.beforeAction.places.Sound := by
  unfold State.beforeAction
  split
  · unfold State.passUnparked
    split
    · exact State.offers_sound h _ _
    · exact h
  all_goals exact h

theorem State.actionMoment_sound (h : s.places.Sound) : s.actionMoment.places.Sound := by
  unfold State.actionMoment
  split
  · exact State.offers_sound (State.act_sound h _) _ _
  all_goals exact h

theorem State.takeRegionCommand_sound (h : s.places.Sound) (a : RegionCommand) :
    (s.takeRegionCommand a).places.Sound := by
  have held : (State.places { s with regionController := .awaiting a }).Sound := h.withController _ nofun
  unfold State.takeRegionCommand
  dsimp only
  split
  · exact held
  · exact State.actionMoment_sound (State.beforeAction_sound held)

theorem State.finishOp_sound (h : s.places.Sound) (departed : Bool) : (s.finishOp departed).places.Sound := by
  have ended : s.endOp.places.Sound := h
  unfold State.finishOp
  dsimp only
  split
  · refine State.actionMoment_sound ?_
    unfold State.reoffer
    split
    · exact State.offers_sound ended _ _
    · exact ended
  · exact State.actionMoment_sound (State.beforeAction_sound ended)

/-! ### Rows -/

/-- The command ends in a next state, and its places are sound. -/
def OutPlaced (o : Out) : Prop := ∃ t, o = .next t ∧ t.places.Sound

theorem OutPlaced.next {t : State} (h : t.places.Sound) : OutPlaced (.next t) := ⟨t, rfl, h⟩

/-- A state with the places of a placed one is placed. -/
theorem OutPlaced.of_places {t : State} (h : s.places.Sound) (ht : t.places = s.places) : OutPlaced (.next t) :=
  .next (ht ▸ h)

theorem takeStep_placed {f : State → Out} (h : s.places.Sound) (hf : ∀ t : State, t.places.Sound → OutPlaced (f t)) :
    OutPlaced (takeStep s f) := by
  unfold takeStep
  split
  · exact .next h
  · exact hf _ (by rwa [State.settle_places])

theorem takeOutstanding_placed {f : State → State} (h : s.places.Sound) (hf : (f s).places = s.places) :
    OutPlaced (takeOutstanding s f) := by
  unfold takeOutstanding
  split
  · exact .next h
  · exact .of_places h hf

/-! ### The Host Port -/

@[simp] theorem State.endTransaction_places (s : State) (outcome armed : Bool) :
    (s.endTransaction outcome armed).places = s.places := rfl

theorem request_placed (h : s.places.Sound) (op : Opcode) (body : List Byte) (crc : Byte) (own : State → Decision) :
    OutPlaced (request op body crc own s) := by
  refine takeStep_placed h fun t ht => ?_
  have responds (d : Decision) : (t.respond op d).places = t.places := by
    unfold State.respond
    dsimp only
    split
    · exact State.hostError_places _ _ _
    · rfl
  split
  · exact .of_places ht (responds _)
  · exact .next ht

/-- Every command that puts a request on SDI keeps the placement. -/
theorem exec_placed_of_requestOf {c : Instr} {op : Opcode} {body : List Byte} {crc : Byte} (h : s.places.Sound)
    (hc : requestOf c = some (op, body, crc)) : OutPlaced (exec c s) := by
  obtain ⟨own, hx⟩ := exec_of_requestOf c op body crc hc
  rw [hx]
  exact request_placed h _ _ _ _

theorem State.enterSink_places (s : State) (opcode reason : Byte) : (s.enterSink opcode reason).places = s.places :=
  State.hostError_places _ _ _

theorem execPostUpdates_placed (h : s.places.Sound) (records : List UpdateRecord) (crc : Byte) :
    OutPlaced (execPostUpdates records crc s) := by
  unfold execPostUpdates
  split
  · exact request_placed h _ _ _ _
  · refine takeStep_placed h fun t ht => ?_
    split
    · exact .of_places ht (t.enterSink_places _ _)
    · exact .next ht

theorem State.writeRegister_places (s : State) (v : Word) (r : Register) : (s.writeRegister v r).places = s.places := by
  cases r with
  | laneControl =>
    simp only [State.writeRegister, State.writeLaneControl]
    split
    · exact State.laneReset_places _
    · split <;> rfl
  | regionStatus n => exact s.places_setRegion n _ rfl
  | _ => rfl

theorem State.resumeSweep_places (s : State) : s.resumeSweep.places = s.places := by
  unfold State.resumeSweep
  split
  · rfl
  · rename_i w rest hw
    split
    · exact s.places_sweeps _ (by rw [hw]; rfl)
    · rfl

/-- A soft reset empties every path of work, and an INITIALIZING region is DEFINED again (R84, R170). -/
theorem State.softReset_sound (h : s.places.Sound) : s.softReset.places.Sound := by
  have cleared : s.softCleared.places.Sound := by
    have site (r : RegionIx) : s.softCleared.places.regions r
        = ((if (s.region r).state = .initializing then .defined else (s.region r).state), (s.region r).desc) :=
      congrArg Region.site (s.softCleared_region r)
    have kept (r : RegionIx) (hr : (s.softCleared.places.regions r).1 ≠ .empty) : (s.places.regions r).1 ≠ .empty := by
      intro he
      have hs : (s.region r).state = .empty := he
      rw [site, hs] at hr
      exact hr rfl
    exact { inside := fun r hr => by rw [site]; exact h.inside r (kept r hr)
            apart := fun r q hne hr hq => by rw [site, site]; exact h.apart r q hne (kept r hr) (kept q hq)
            entries := nofun, sweeps := nofun, fill := nofun }
  have logged (e : Event) : (s.softCleared.log e).places.Sound := by rwa [State.log_places]
  exact logged _

theorem State.commit_sound (h : s.places.Sound) (c : Commit) : (s.commit c).places.Sound := by
  cases c with
  | writeRegister r v =>
    rw [State.commit, State.writeRegister_places]
    exact h
  | takeReadout n =>
    rw [State.commit, State.resumeSweep_places]
    exact h
  | wake =>
    simp only [State.commit, State.wakeUp]
    split
    · exact h
    · exact h
  | softReset => exact State.softReset_sound h
  | nothing | post | submit | takeCompletion | takeEvent | arm => exact h

theorem execCleanEnd_placed (h : s.places.Sound) : OutPlaced (execCleanEnd s) :=
  takeStep_placed h fun t ht => by
    split
    · exact .next (State.commit_sound ht _)
    all_goals exact .next ht

theorem execEarlyEnd_placed (h : s.places.Sound) (op : Opcode) : OutPlaced (execEarlyEnd op s) :=
  takeStep_placed h fun t ht => by
    have reported (o : Byte) : ((t.hostError o 1#8).endTransaction true false).places = t.places := by simp
    split
    · exact .of_places ht (reported _)
    · exact .of_places ht (reported _)
    · split
      · exact .next ht
      · exact .of_places ht (reported _)
    all_goals exact .next ht

theorem execSink_placed (h : s.places.Sound) (cause : SinkCause) : OutPlaced (execSink cause s) :=
  takeStep_placed h fun t ht => by
    split
    · split
      · split
        · exact .next ht
        · exact .of_places ht (t.enterSink_places _ _)
      · split
        · exact .next ht
        · exact .of_places ht (t.enterSink_places _ _)
    · exact .next ht

theorem execSinkEnd_placed (h : s.places.Sound) : OutPlaced (execSinkEnd s) :=
  takeStep_placed h fun t ht => by
    split
    · exact .next ht
    · exact .next ht

theorem execSselNFall_placed (h : s.places.Sound) (sckHigh : Bool) : OutPlaced (execSselNFall sckHigh s) :=
  takeStep_placed h fun t ht => by
    split
    · exact .next ht
    · exact .next ht

theorem execIgnoredLowPeriod_placed (h : s.places.Sound) : OutPlaced (execIgnoredLowPeriod s) :=
  takeStep_placed h fun t ht => by
    split
    · exact .next ht
    · exact .next ht

/-! ### Dispatch (R35) -/

theorem dispatch_placed (h : s.places.Sound) (kind : CommandKind) {take : QueuedCommand → State → State}
    (ht : ∀ (c : QueuedCommand) (t : State), t.places.Sound → (take c t).places.Sound) :
    OutPlaced (dispatch kind take s) :=
  takeStep_placed h fun t hs => by
    split
    · exact .next hs
    · exact .next (ht _ _ hs)

/-- A SWEEP joins the queue only for a LIVE region that holds its LAST (R128). -/
theorem execSweep_placed (h : s.places.Sound) : OutPlaced (execSweep s) :=
  dispatch_placed h _ fun c t ht => by
    dsimp only
    split
    · exact ht
    · rename_i hc
      have checked : t.places.holdsBin (sweepOf c.ticket c.params).region (sweepOf c.ticket c.params).last := by
        simp only [State.sweepCheck] at hc
        split at hc
        · cases hc
        rename_i live
        split at hc
        · cases hc
        rename_i bins
        simp only [Bool.or_eq_true, decide_eq_true_eq, not_or, BitVec.not_lt] at bins
        exact ⟨not_not.1 live, bins.2⟩
      refine { ht with sweeps := fun w hw => ?_ }
      obtain ⟨v, hv, rfl⟩ := List.mem_map.1 hw
      rcases List.mem_append.1 hv with hv | hv
      · exact ht.sweeps _ (List.mem_map_of_mem hv)
      · obtain rfl := List.mem_singleton.1 hv
        exact checked

theorem Sweep.closeIf_site (w : Sweep) (t : Tag) : (w.closeIf t).site = w.site := by
  unfold Sweep.closeIf
  split <;> rfl

theorem State.cancelSweep_sound (h : s.places.Sound) (ticket : Ticket) (t : Tag) :
    (s.cancelSweep ticket t).places.Sound := by
  refine h.fewer (fun e he => he) fun w hw => ?_
  rw [State.cancelSweep, List.map_map, List.map_congr_left fun v _ => v.closeIf_site t] at hw
  exact List.map_subset _ List.filter_sublist.subset hw

theorem State.startFence_places (s : State) (ticket : Ticket) (laneFlag : Bool) :
    (s.startFence ticket laneFlag).places = s.places := by
  have joined := State.mapPresent_places (s.sealWhere fun e => laneFlag || e.fromHost)
    (fun e => if laneFlag || e.fromHost then { e with waits := { e.waits with fence := true } } else e)
    fun e => by split <;> rfl
  exact joined.trans (s.sealWhere_places _)

theorem execRetain_placed (h : s.places.Sound) : OutPlaced (execRetain s) :=
  dispatch_placed h _ fun c t ht => by
    have quieted : (t.sealWhere fun _ => true).places.Sound := by rwa [State.sealWhere_places]
    split
    · exact ht
    · exact quieted

/-! ### Grants (R144, R145) -/

theorem grantTo_placed (h : s.places.Sound) (m : Member) {f : State → State → Out}
    (hf : ∀ t : State, t.places.Sound → t.requests m = true →
      OutPlaced (f t { t with array := { t.array with pointer := m.following } })) : OutPlaced (grantTo m f s) :=
  takeStep_placed h fun t ht => by
    split
    · exact hf t ht (t.requests_of_grant m ‹_›)
    · exact .next ht

/-- An operation on a bin of a region that is not EMPTY finds its counter in the array, and begins (R142). -/
theorem beginOn_placed {t : State} (c : CounterOp) (op : ArrayOp) (h : s.places.Sound) (ht : t.places.Sound)
    (hd : c.desc = (s.region c.region).desc) (hr : (s.region c.region).state ≠ .empty)
    (hb : c.bin ≤ (s.region c.region).desc.binsMinus1) : OutPlaced (beginOn c op t) := by
  have inside : counterLastWord c.desc c.bin < Config.arrayWords := by
    rw [hd]
    exact h.counterInside hr hb
  rw [beginOn_of_inside c op t inside]
  exact .next ht

theorem pickEligible_mem (p : Entry → Bool) (l : List Entry) (q : Entry × List Entry) (h : pickEligible p l = some q) :
    q.1 ∈ l ∧ ∀ e ∈ q.2, e ∈ l := by
  induction l generalizing q with
  | nil => cases h
  | cons e l ih =>
    unfold pickEligible at h
    split at h
    · cases h
      exact ⟨by simp, fun e he => by simp [he]⟩
    · obtain ⟨q', hq, rfl⟩ := Option.map_eq_some_iff.1 h
      obtain ⟨hm, hr⟩ := ih q' hq
      refine ⟨by simp [hm], fun f hf => ?_⟩
      rcases List.mem_cons.1 hf with rfl | hf
      · simp
      · simp [hr f hf]

theorem execCommit_placed (h : s.places.Sound) : OutPlaced (execCommit s) :=
  grantTo_placed h _ fun t ht _ => by
    dsimp only
    split
    · exact .next ht
    · rename_i e rest hp
      obtain ⟨hm, hr⟩ := pickEligible_mem _ _ _ hp
      obtain ⟨⟨live, bin⟩, -⟩ := ht.entries _ (List.mem_map_of_mem hm)
      refine beginOn_placed _ _ ht ?_ rfl (live.trans_ne (by decide)) bin
      exact ht.fewer (fun _ he => List.map_subset _ hr he) fun _ hw => hw

theorem State.withdraw_sound (h : s.places.Sound) (p : Entry → Bool) : (s.withdraw p).places.Sound :=
  h.fewer (fun _ he => List.map_subset _ List.filter_sublist.subset he) fun _ hw => hw

/-- A bin operation that passes its checks is on a bin of a LIVE region (R119). -/
theorem State.holdsBin_of_binCheck (s : State) (r : RegionIx) (b : BinIx) (isWrite : Bool)
    (h : s.binCheck r b isWrite = none) : s.places.holdsBin r b := by
  simp only [State.binCheck] at h
  split at h
  · cases h
  rename_i live
  split at h
  · cases h
  rename_i bin
  exact ⟨not_not.1 live, BitVec.not_lt.1 bin⟩

theorem execBinRead_placed (h : s.places.Sound) : OutPlaced (execBinRead s) :=
  grantTo_placed h _ fun t ht _ => by
    dsimp only
    split
    · split
      · exact .next ht
      · rename_i hc
        obtain ⟨live, bin⟩ := State.holdsBin_of_binCheck _ _ _ _ hc
        exact beginOn_placed _ _ ht (State.withdraw_sound (s := { t with array := _ }) ht _) rfl
          (live.trans_ne (by decide)) bin
    · exact .next ht

theorem execBinWrite_placed (h : s.places.Sound) : OutPlaced (execBinWrite s) :=
  grantTo_placed h _ fun t ht _ => by
    dsimp only
    split
    · split
      · exact .next ht
      · rename_i hc
        obtain ⟨live, bin⟩ := State.holdsBin_of_binCheck _ _ _ _ hc
        exact beginOn_placed _ _ ht (State.withdraw_sound (s := { t with array := _ }) ht _) rfl
          (live.trans_ne (by decide)) bin
    · exact .next ht

/-- A step is requested for a bin that does not lie beyond LAST (R131). -/
theorem execSweepStep_placed (h : s.places.Sound) : OutPlaced (execSweepStep s) :=
  grantTo_placed h _ fun t ht hr => by
    dsimp only
    split
    · exact .next ht
    · rename_i w rest hw
      obtain ⟨live, last⟩ := ht.sweeps w.site (List.mem_map_of_mem (by simp [show t.sweeps = w :: rest from hw]))
      have cursor : w.cursor ≤ w.last.toNat := by
        simp only [State.requests, State.sweepRequests, show t.sweeps = w :: rest from hw, Bool.and_eq_true,
          decide_eq_true_eq] at hr
        exact hr.1.2
      have bin : BitVec.ofNat 16 w.cursor ≤ (t.region w.region).desc.binsMinus1 := by
        have bound : w.last ≤ (t.region w.region).desc.binsMinus1 := last
        bv_omega
      exact beginOn_placed _ _ ht (State.withdraw_sound (s := { t with array := _ }) ht _) rfl
        (live.trans_ne (by decide)) bin

theorem execInitStep_placed (h : s.places.Sound) : OutPlaced (execInitStep s) :=
  grantTo_placed h _ fun t ht _ => by
    dsimp only
    split
    · rename_i ticket r b hf
      obtain ⟨state, bound⟩ := ht.fill ticket r b hf
      have bin : BitVec.ofNat 16 b ≤ (t.region r).desc.binsMinus1 := by
        have hb : b ≤ (t.region r).desc.binsMinus1.toNat := bound
        bv_omega
      exact beginOn_placed _ _ ht ht rfl (state.trans_ne (by decide)) bin
    · exact .next ht

theorem execRefresh_placed (h : s.places.Sound) : OutPlaced (execRefresh s) :=
  takeStep_placed h fun t ht => by
    split
    · exact .next ht
    · exact .next ht

theorem execPoisonFill_placed (h : s.places.Sound) : OutPlaced (execPoisonFill s) :=
  takeStep_placed h fun t ht => by
    split
    · split
      · exact .next ht
      · exact .next ht
    · exact .next ht

/-! ### Completions of operations -/

theorem State.accessCounter_places (s : State) (c : CounterOp) : (s.accessCounter c).places = s.places := by
  rw [State.accessCounter_frame]
  rfl

/-- A reading operation changes its region's flags, and neither its state nor its descriptor. -/
theorem State.readCounter_places (s : State) (c : CounterOp) (k : ReadKind) : (s.readCounter c k).places = s.places := by
  have before : State.places ((((s.readReports c k).accessCounter c).markPoisoned c k).writeBack c k) = s.places := by
    rw [State.writeBack_frame, State.markPoisoned_frame, State.accessCounter_frame, State.readReports_frame]
    rfl
  refine (State.places_setRegion _ _ _ ?_).trans before
  exact congrFun (congrArg Places.regions before.symm) c.region

theorem execCommitCompletion_placed (h : s.places.Sound) : OutPlaced (execCommitCompletion s) :=
  takeStep_placed h fun t ht => by
    split
    · exact .next (State.finishOp_sound (by rwa [State.readCounter_places]) _)
    · exact .next ht

theorem execBinReadCompletion_placed (h : s.places.Sound) : OutPlaced (execBinReadCompletion s) :=
  takeStep_placed h fun t ht => by
    split
    · rename_i c _
      have read (b : BinUnit) : (State.places { t.readCounter c .binRead with binUnit := b }).Sound :=
        (t.readCounter_places c .binRead).symm ▸ ht
      exact .next (State.finishOp_sound (read _) _)
    · exact .next ht

theorem execBinWriteCompletion_placed (h : s.places.Sound) : OutPlaced (execBinWriteCompletion s) :=
  takeStep_placed h fun t ht => by
    split
    · rename_i c v _
      have stored (b : BinUnit) : (State.places { (t.accessCounter c).storeCounter c v with binUnit := b }).Sound :=
        (t.accessCounter_places c).symm ▸ ht
      exact .next (State.finishOp_sound (stored _) _)
    · exact .next ht

theorem execSweepStepCompletion_placed (h : s.places.Sound) : OutPlaced (execSweepStepCompletion s) :=
  takeStep_placed h fun t ht => by
    split
    · rename_i c w rest hop hw
      have stepped (k : ReadKind) (n : Nat) :
          (State.places { (t.readCounter c k).placeRecord (stepRecord w c) with
            sweeps := w.stepped c n :: rest }).Sound := by
        have same : ((t.readCounter c k).placeRecord (stepRecord w c)).sweeps = w :: rest := by
          rw [State.placeRecord_sweeps, State.readCounter_frame, hw]
        rw [State.places_sweeps _ _ (by rw [same]; rfl)]
        exact (t.readCounter_places c k).symm ▸ ht
      exact .next (State.finishOp_sound (stepped _ _) _)
    · exact .next ht

/-- A fill goes on inside its region, or ends with the region LIVE (R83, R84). -/
theorem State.filled_sound (h : s.places.Sound) : s.filled.places.Sound := by
  unfold State.filled
  split
  · rename_i t r b hf
    obtain ⟨state, -⟩ := h.fill t r b hf
    split
    · rename_i hb
      refine { h with fill := fun t' r' b' he => ?_ }
      cases he
      exact ⟨state, hb⟩
    · obtain ⟨noEntry, noSweep⟩ := h.absent r (state.trans_ne (by decide))
      rw [State.setRegionState, s.places_setSite]
      exact h.setState .live (state.trans_ne (by decide)) noEntry noSweep nofun
  all_goals exact h

theorem execInitStepCompletion_placed (h : s.places.Sound) : OutPlaced (execInitStepCompletion s) :=
  takeStep_placed h fun t ht => by
    split
    · rename_i c _
      have stored : (State.places ((t.accessCounter c).storeCounter c c.resetValue)).Sound :=
        (t.accessCounter_places c).symm ▸ ht
      exact .next (State.finishOp_sound (State.filled_sound stored) _)
    · exact .next ht

theorem execRefreshCompletion_placed (h : s.places.Sound) : OutPlaced (execRefreshCompletion s) :=
  takeStep_placed h fun t ht => by
    split
    · refine .next (State.finishOp_sound ?_ _)
      exact ht
    · exact .next ht

theorem execPoisonFillCompletion_placed (h : s.places.Sound) : OutPlaced (execPoisonFillCompletion s) :=
  takeStep_placed h fun t ht => by
    split
    · refine .next (State.finishOp_sound ?_ _)
      split
      · exact ht
      · exact ht
    · exact .next ht

/-! ### Completion records, RETAIN and the resets -/

theorem State.postFrom_sound (h : s.places.Sound) (p : Producer) : (s.postFrom p).places.Sound := by
  cases p with
  | headSweep t r => exact h.fewer (fun e he => he) fun w hw => List.map_subset _ (List.tail_subset _) hw
  | regionController c => exact h.withController _ nofun
  | _ => exact h

theorem execCompletionPost_placed (h : s.places.Sound) : OutPlaced (execCompletionPost s) :=
  takeStep_placed h fun t ht => by
    split
    · split
      · exact .next (State.postFrom_sound ht _)
      · exact .next ht
    · exact .next ht

theorem execEnterRetain_placed (h : s.places.Sound) : OutPlaced (execEnterRetain s) :=
  takeStep_placed h fun t ht => by
    split
    · split
      · exact .next ht
      · exact .next ht
    all_goals exact .next ht

theorem execReturnMessage_placed (h : s.places.Sound) : OutPlaced (execReturnMessage s) :=
  takeStep_placed h fun t ht => by
    split
    all_goals exact .next ht

theorem execTimebaseTick_placed (h : s.places.Sound) : OutPlaced (execTimebaseTick s) :=
  takeStep_placed h fun t ht => by
    have counted (u : State) : u.lingerCount.refreshCount.laneCount.initCount.places = u.places := by
      rw [State.initCount_eq, State.laneCount_eq]
      rfl
    refine .of_places ht ?_
    unfold State.tick
    split
    · rfl
    · rw [counted, State.stallTick_eq _ _ rfl]
      rfl

/-- A reset leaves every region EMPTY, and no entry, sweep or fill (R165). -/
theorem State.inReset_sound (s : State) (obligation : Bool) : (s.inReset obligation).places.Sound := by
  have blank (r : RegionIx) : ((s.inReset obligation).places.regions r).1 = .empty :=
    congrArg Region.state (Vector.getElem_replicate r.isLt)
  exact { inside := fun r hr => absurd (blank r) hr, apart := fun r _ _ hr => absurd (blank r) hr
          entries := nofun, sweeps := nofun, fill := nofun }

theorem execResetRelease_placed (h : s.places.Sound) : OutPlaced (execResetRelease s) := by
  unfold execResetRelease
  split
  · exact .next h
  · exact .next h

/-! ### Every step -/

theorem State.places_withBinUnit (h : s.places.Sound) (b : BinUnit) :
    (State.places { s with binUnit := b }).Sound := h

/-- Every command answers with a next state, and keeps the placement. -/
theorem exec_placed (c : Instr) (h : s.places.Sound) : OutPlaced (exec c s) := by
  cases c with
  | status | regRead | regWrite | submit | takeCompletion | takeReadout | takeEvent | wake | softReset | trimUp
  | trimDown | laneReset | laneEnable | alertClear | eventStatus | statisticsCounterClear | regionStatus | clearCount
  | eccInject => exact exec_placed_of_requestOf h rfl
  | sselNFall sckHigh => exact execSselNFall_placed h sckHigh
  | postUpdates records crc => exact execPostUpdates_placed h records crc
  | earlyEnd op => exact execEarlyEnd_placed h op
  | sink cause => exact execSink_placed h cause
  | define | init | adopt | retire => exact dispatch_placed h _ fun c t ht => State.takeRegionCommand_sound ht _
  | readBin | writeBin => exact dispatch_placed h _ fun c t ht => t.places_withBinUnit ht _
  | sweep => exact execSweep_placed h
  | cancelSweep => exact dispatch_placed h _ fun c t ht => State.cancelSweep_sound ht _ _
  | fence => exact dispatch_placed h _ fun c t ht => (t.startFence_places _ _).symm ▸ ht
  | retain => exact execRetain_placed h
  | updateAcceptance => exact takeStep_placed h fun t ht => .next (State.offers_sound ht _ _)
  | markerRegistration => exact takeOutstanding_placed h s.markRecord_places
  | commit => exact execCommit_placed h
  | commitCompletion => exact execCommitCompletion_placed h
  | binRead => exact execBinRead_placed h
  | binReadCompletion => exact execBinReadCompletion_placed h
  | binWrite => exact execBinWrite_placed h
  | binWriteCompletion => exact execBinWriteCompletion_placed h
  | sweepStep => exact execSweepStep_placed h
  | sweepStepCompletion => exact execSweepStepCompletion_placed h
  | terminalRecord => exact takeOutstanding_placed h s.terminalRecord_places
  | initStep => exact execInitStep_placed h
  | initStepCompletion => exact execInitStepCompletion_placed h
  | refresh => exact execRefresh_placed h
  | refreshCompletion => exact execRefreshCompletion_placed h
  | poisonFill => exact execPoisonFill_placed h
  | poisonFillCompletion => exact execPoisonFillCompletion_placed h
  | completionPost => exact execCompletionPost_placed h
  | dataFrame samples | trainingFrame samples =>
    exact takeStep_placed h fun t ht => .of_places ht (t.lclkEdges_places samples)
  | returnMessage => exact execReturnMessage_placed h
  | timebaseTick => exact execTimebaseTick_placed h
  | lingerTick => exact takeOutstanding_placed h s.lingerTick_places
  | refreshDue => exact takeOutstanding_placed h s.refreshDue_places
  | seekRetrainRepeat => exact takeOutstanding_placed h s.seekRepeat_places
  | trainTimeout => exact takeOutstanding_placed h s.trainTimeout_places
  | laneStall => exact takeOutstanding_placed h s.stallReport_places
  | powerOnReset | pinReset => exact .next (s.inReset_sound _)
  | resetRelease => exact execResetRelease_placed h
  | endOfInitialisation => exact takeOutstanding_placed h s.endOfInitialisation_places
  | enterRetain => exact execEnterRetain_placed h
  | reservedRecord => exact takeOutstanding_placed h s.reservedRecord_places
  | sweepStart => exact takeOutstanding_placed h s.sweepStart_places
  | cleanEnd => exact execCleanEnd_placed h
  | sinkEnd => exact execSinkEnd_placed h
  | ignoredLowPeriod => exact execIgnoredLowPeriod_placed h
  | padRecord => exact takeOutstanding_placed h s.padRecord_places

end

/-- Settles O59: a step is the front command on the state with the queue's rest, and every command answers with a placed
state. -/
theorem placedStatesNeverFault : Obligations.PlacedStatesNeverFault := by
  intro s h
  have answers : OutPlaced (step s) := by
    unfold step
    split
    · exact .next (s.placed_iff.1 h)
    · exact exec_placed _ (s.placed_iff.1 h)
  obtain ⟨t, ht, placed⟩ := answers
  rw [ht]
  refine ⟨nofun, nofun, ?_⟩
  rintro _ ⟨⟩
  exact t.placed_iff.2 placed

end Sys2Proof.Machine
end

section
/-! SUPPORT. What the Array Arbiter is asked for and what it grants (R83, R115, R117 to R119, R131, R145). -/

namespace Sys2Proof.Machine

/-! ### What requests the array -/

/-- The active consistent sweep of a region is a head sweep that is active, consistent and of the region (R129). -/
theorem State.consistentSweep_eq_some_iff (s : State) (w : Sweep) (r : RegionIx) :
    s.consistentSweep r = some w ↔ s.sweptConsistently w r := by
  have active : w.state.isActive = true ↔ w.state = .running ∨ w.state = .stalled ∨ w.state = .closing := by
    cases w.state <;> simp [SweepState.isActive]
  unfold State.consistentSweep State.sweptConsistently
  split
  · simp_all
  · rename_i v rest hs
    rw [← active, hs]
    simp only [Option.ite_none_right_eq_some, Option.some.injEq, List.cons.injEq, Bool.and_eq_true, decide_eq_true_eq]
    constructor
    · rintro ⟨⟨⟨hv, hc⟩, hr⟩, rfl⟩
      exact ⟨⟨rest, rfl, rfl⟩, hv, hc, hr⟩
    · rintro ⟨⟨_, rfl, -⟩, hv, hc, hr⟩
      exact ⟨⟨⟨hv, hc⟩, hr⟩, rfl⟩

theorem State.pinned_iff (s : State) (e : Entry) : s.pinned e = true ↔ s.pins e := by
  simp only [State.pins, ← State.consistentSweep_eq_some_iff, State.pinned]
  cases s.consistentSweep e.region <;> simp [and_assoc]

theorem State.eligible_iff (s : State) (e : Entry) : s.eligible e = true ↔ s.mayCommit e := by
  rw [State.mayCommit, ← s.pinned_iff, State.eligible, State.occupancy]
  simp [or_assoc]

/-- A member requests the array exactly for what R83, R117, R119 and R131 name. -/
theorem State.requests_iff (s : State) (m : Member) : s.requests m = true ↔ s.wants m := by
  cases m with
  | binAccess => cases hb : s.binUnit <;> simp [State.requests, State.wants, hb]
  | sweep =>
    cases hs : s.sweeps with
    | nil => simp [State.requests, State.sweepRequests, State.wants, hs]
    | cons w rest =>
      simp only [State.requests, State.sweepRequests, State.wants, hs, Bool.and_eq_true, decide_eq_true_eq]
      simp [Config.readoutSlots, and_assoc]
  | commit => simp [State.requests, State.wants, State.eligible_iff]
  | init => cases hr : s.regionController <;> simp [State.requests, State.wants, hr]

/-! ### What is granted (R145) -/

theorem Member.rotation_eq (m : Member) :
    m.rotation = match m with
      | .binAccess => [Member.binAccess, .sweep, .commit, .init]
      | .sweep => [Member.sweep, .commit, .init, .binAccess]
      | .commit => [Member.commit, .init, .binAccess, .sweep]
      | .init => [Member.init, .binAccess, .sweep, .commit] := by
  cases m <;> rfl

theorem Member.mem_rotation (p m : Member) : m ∈ p.rotation := by
  cases p <;> cases m <;> decide

/-- No member is found exactly if none requests: the rotation holds all four. -/
theorem State.find?_requests_eq_none (s : State) :
    s.array.pointer.rotation.find? s.requests = none ↔ ∀ m, ¬ s.wants m := by
  simp only [List.find?_eq_none, ← s.requests_iff]
  exact ⟨fun h m => h m (Member.mem_rotation _ m), fun h m _ => h m⟩

/-- The member found requests, and none before it in the rotation does. -/
theorem State.find?_requests_eq_some (s : State) (m : Member) :
    s.array.pointer.rotation.find? s.requests = some m
      ↔ s.wants m ∧ ∃ before after, before ++ m :: after = s.array.pointer.rotation ∧ ∀ q ∈ before, ¬ s.wants q := by
  simp only [List.find?_eq_some_iff_append, ← s.requests_iff, Bool.not_eq_true', Bool.not_eq_true,
    @eq_comm _ (_ ++ _ :: _)]

/-- Nothing is granted while an operation is in progress; the debt of 6 goes before all else (R145). -/
theorem State.nextGrant_eq_some_iff (s : State) (g : Grant) :
    s.nextGrant = some g ↔ s.array.op = none ∧
      ((6 ≤ s.refreshTimer.debt ∧ g = .refresh)
        ∨ (s.refreshTimer.debt < 6 ∧ ∃ m, s.array.pointer.rotation.find? s.requests = some m ∧ g = .member m)
        ∨ (s.refreshTimer.debt < 6 ∧ (∀ m, ¬ s.wants m) ∧ s.power.fillRow.isSome ∧ g = .fill)
        ∨ (s.refreshTimer.debt < 6 ∧ (∀ m, ¬ s.wants m) ∧ s.power.fillRow = none ∧ 0 < s.refreshTimer.debt
          ∧ g = .refresh)) := by
  unfold State.nextGrant
  cases hop : s.array.op with
  | some op => simp
  | none =>
    by_cases hd : 6 ≤ s.refreshTimer.debt
    · have hn : ¬ s.refreshTimer.debt < 6 := by omega
      simp [Config.maxDebt, hd, hn, @eq_comm _ g]
    · have hl : s.refreshTimer.debt < 6 := by omega
      have hc : ¬ Config.maxDebt ≤ s.refreshTimer.debt := hd
      rw [← s.find?_requests_eq_none]
      cases s.array.pointer.rotation.find? s.requests with
      | some m => simp [hc, hd, hl, @eq_comm _ g]
      | none => cases s.power.fillRow <;> simp [hc, hd, hl, @eq_comm _ g]

theorem State.nextGrant_refresh_iff (s : State) :
    s.nextGrant = some .refresh ↔ s.array.op = none ∧
      (6 ≤ s.refreshTimer.debt ∨ (0 < s.refreshTimer.debt ∧ (∀ m, ¬ s.wants m) ∧ s.power.fillRow = none)) := by
  rw [s.nextGrant_eq_some_iff]
  simp only [reduceCtorEq, and_false, exists_false, and_true, false_or]
  constructor
  · rintro ⟨ho, hd | ⟨-, hw, hf, hp⟩⟩
    · exact ⟨ho, .inl hd⟩
    · exact ⟨ho, .inr ⟨hp, hw, hf⟩⟩
  · rintro ⟨ho, hd | ⟨hp, hw, hf⟩⟩
    · exact ⟨ho, .inl hd⟩
    · by_cases hd : 6 ≤ s.refreshTimer.debt
      · exact ⟨ho, .inl hd⟩
      · exact ⟨ho, .inr ⟨by omega, hw, hf, hp⟩⟩

theorem State.nextGrant_fill_iff (s : State) :
    s.nextGrant = some .fill ↔ s.array.op = none ∧ s.refreshTimer.debt < 6 ∧ (∀ m, ¬ s.wants m)
      ∧ s.power.fillRow.isSome := by
  simp [s.nextGrant_eq_some_iff]

theorem State.nextGrant_member_iff (s : State) (m : Member) :
    s.nextGrant = some (.member m) ↔ s.array.op = none ∧ s.refreshTimer.debt < 6 ∧ s.wants m
      ∧ ∃ before after, before ++ m :: after = s.array.pointer.rotation ∧ ∀ q ∈ before, ¬ s.wants q := by
  rw [s.nextGrant_eq_some_iff, ← s.find?_requests_eq_some]
  simp

/-! ### The rows of the arbiter -/

theorem grantTo_of_not_granted (m : Member) (f : State → State → Out) (s : State) (h : s.quiet)
    (hg : s.nextGrant ≠ some (.member m)) : grantTo m f s = .next s := by
  rw [grantTo_of_quiet m f s h, if_neg hg]

theorem execBinRead_of_not_read (s : State) (h : s.quiet) (hu : ∀ t r b, s.binUnit ≠ .read t r b) :
    execBinRead s = .next s := by
  rw [execBinRead, grantTo_of_quiet _ _ s h]
  cases hb : s.binUnit with
  | read t r b => exact absurd hb (hu t r b)
  | idle | write | posting => simp

theorem execBinWrite_of_not_write (s : State) (h : s.quiet) (hu : ∀ t r b v, s.binUnit ≠ .write t r b v) :
    execBinWrite s = .next s := by
  rw [execBinWrite, grantTo_of_quiet _ _ s h]
  cases hb : s.binUnit with
  | write t r b v => exact absurd hb (hu t r b v)
  | idle | read | posting => simp

theorem execRefresh_of_quiet (s : State) (h : s.quiet) :
    execRefresh s = .next (if s.nextGrant = some .refresh then s.startOp .refresh else s) := by
  rw [execRefresh, takeStep_of_quiet s _ h]
  split <;> rfl

theorem execPoisonFill_of_quiet (s : State) (h : s.quiet) :
    execPoisonFill s = .next (match s.power.fillRow with
      | some row => if s.nextGrant = some .fill then s.startOp (.poisonFill row) else s
      | none => s) := by
  rw [execPoisonFill, takeStep_of_quiet s _ h]
  cases s.power.fillRow with
  | none => rfl
  | some row => dsimp only; split <;> rfl

/-- Settles O32: a member's request is what the rules name, so what the arbiter finds first in its rotation is the member
that requests with none before it; each row is granted on exactly that. -/
theorem arbiterGrantsInOrder : Obligations.ArbiterGrantsInOrder := by
  unfold Obligations.ArbiterGrantsInOrder
  intro s hq refreshes fills gets hrefreshes hfills hgets
  rw [← s.nextGrant_refresh_iff] at hrefreshes
  rw [← s.nextGrant_fill_iff] at hfills
  have granted (m : Member) : gets m ↔ s.nextGrant = some (.member m) := by
    have inOrder := s.nextGrant_member_iff m
    rw [Member.rotation_eq] at inOrder
    exact (hgets m).trans inOrder.symm
  have ungranted (m : Member) (row : Instr) (hr : ∃ f, exec row s = grantTo m f s) (hm : ¬ gets m) :
      exec row s = .next s := by
    obtain ⟨f, hr⟩ := hr
    exact hr.trans (grantTo_of_not_granted m f s hq fun hg => hm ((granted m).2 hg))
  refine ⟨fun h => ?_, fun h => ?_, fun row h hrow => ?_, fun h => ?_, granted, ?_, ?_, fun h => ?_, fun h => ?_,
    fun h => ?_⟩
  · exact (execRefresh_of_quiet s hq).trans (by rw [if_pos (hrefreshes.1 h)]; rfl)
  · exact (execRefresh_of_quiet s hq).trans (by rw [if_neg fun hg => h (hrefreshes.2 hg)])
  · exact (execPoisonFill_of_quiet s hq).trans (by rw [hrow]; simp only [if_pos (hfills.1 h)]; rfl)
  · refine (execPoisonFill_of_quiet s hq).trans ?_
    have hf : ¬ s.nextGrant = some .fill := fun hg => h (hfills.2 hg)
    cases s.power.fillRow <;> simp [hf]
  · rintro (h | h)
    · exact ungranted _ _ ⟨_, execBinRead.eq_1 s⟩ h
    · exact execBinRead_of_not_read s hq h
  · rintro (h | h)
    · exact ungranted _ _ ⟨_, execBinWrite.eq_1 s⟩ h
    · exact execBinWrite_of_not_write s hq h
  · exact ungranted _ _ ⟨_, execSweepStep.eq_1 s⟩ h
  · exact ungranted _ _ ⟨_, execCommit.eq_1 s⟩ h
  · exact ungranted _ _ ⟨_, execInitStep.eq_1 s⟩ h

end Sys2Proof.Machine
end

section
/-! SUPPORT. The writes of REGION_STATUS and ECC_INJECT: the CLEAR_COUNT bit that each row brings, and what the write leaves
of the flags, of the count and of the armed mode (R92, R152). -/

namespace Sys2Proof.Machine

/-! ### REGION_STATUS (R92) -/

/-- The row brings CLEAR_COUNT in bit 8, and the written value in the bits below it. -/
theorem withClearCount_getLsbD (clear : Bool) (value : Word) (i : Nat) (h : i ≤ 8) :
    (withClearCount clear value).getLsbD i = if i < 8 then value.getLsbD i else clear := by
  refine BitVec.getLsbD_append.trans ?_
  rw [BitVec.getLsbD_append]
  by_cases hi : i < 8
  · simp [hi]
  · obtain rfl : i = 8 := by omega
    simp

/-- Both rows are a write of REGION_STATUS[n] with their own CLEAR_COUNT (log entry 9). -/
theorem regionStatus_row (n : RegionIx) (c : Instr) (clears : Bool) (value : Word) (crc : Byte)
    (h : (c = .regionStatus n value crc ∧ clears = false) ∨ (c = .clearCount n value crc ∧ clears = true)) :
    requestOf c = some (.regWrite, regionStatusIndex n :: wordBytes (withClearCount clears value), crc)
      ∧ ∀ s, exec c s = request .regWrite (regionStatusIndex n :: wordBytes (withClearCount clears value)) crc
          (fun _ => writeDecision (regionStatusIndex n) (withClearCount clears value)) s := by
  rcases h with ⟨rfl, rfl⟩ | ⟨rfl, rfl⟩ <;> exact ⟨rfl, fun _ => rfl⟩

theorem registerOf_regionStatusIndex (n : RegionIx) : registerOf (regionStatusIndex n) = some (.regionStatus n) := by
  revert n
  decide

theorem writeDecision_regionStatus (n : RegionIx) (value : Word) :
    writeDecision (regionStatusIndex n) value = accept [] (.writeRegister (.regionStatus n) value) := by
  rw [writeDecision, registerOf_regionStatusIndex]
  rfl

/-- The flags written as 1 are cleared, and the count where CLEAR_COUNT is brought (R92). -/
theorem State.writeRegionStatus_withClearCount (s : State) (n : RegionIx) (clears : Bool) (value : Word) :
    s.writeRegionStatus n (withClearCount clears value) = s.setRegion n { s.region n with
      satSeen := (s.region n).satSeen && !value.getLsbD 4
      wrapSeen := (s.region n).wrapSeen && !value.getLsbD 5
      poisonSeen := (s.region n).poisonSeen && !value.getLsbD 6
      rejectSeen := (s.region n).rejectSeen && !value.getLsbD 7
      rejectCount := if clears then 0#16 else (s.region n).rejectCount } := by
  have low (i : Nat) (h : i < 8) : (withClearCount clears value).getLsbD i = value.getLsbD i := by
    rw [withClearCount_getLsbD clears value i h.le, if_pos h]
  have clear : (withClearCount clears value).getLsbD 8 = clears := withClearCount_getLsbD clears value 8 le_rfl
  simp only [State.writeRegionStatus, low 4 (by decide), low 5 (by decide), low 6 (by decide), low 7 (by decide), clear]

/-! ### ECC_INJECT (R152) -/

theorem writeDecision_eccInject (value : Word) (h : value.extractLsb' 0 2 ≠ 3#2) :
    writeDecision 0x1E#8 value = accept [] (.writeRegister .eccInject value) := by
  have index : registerOf 0x1E#8 = some .eccInject := rfl
  have mode : fieldOf value 0 2 ≠ 3 := fun hm => h (BitVec.eq_of_toNat_eq hm)
  have small : fieldOf value 0 2 < 4 := (value.extractLsb' 0 2).isLt
  simp only [writeDecision, index, writeAccepted, decide_eq_true_eq]
  exact if_pos (by omega)

/-- Every MODE but 3 is armed as written (R152). -/
theorem eccModeCode_writtenMode (value : Word) (h : value.extractLsb' 0 2 ≠ 3#2) :
    eccModeCode (writtenMode value) = value.extractLsb' 0 2 := by
  have modes : ∀ m : BitVec 2, m ≠ 3#2 →
      eccModeCode (if m = 1#2 then .single else if m = 2#2 then .double else .none) = m := by decide
  exact modes _ h

/-- Settles O21: both REGION_STATUS rows are one write whose bit 8 is the row's own CLEAR_COUNT, and ECC_INJECT arms the
mode that is written. -/
theorem regionStatusAndEccWrites : Obligations.RegionStatusAndEccWrites := by
  unfold Obligations.RegionStatusAndEccWrites
  intro value crc s hw
  have admitted := powerRefusal_of_writable s .regWrite hw (by decide) (by decide)
  refine ⟨fun n c clears hrow h => ?_, fun h hm => ?_, fun h hm => ?_⟩
  · obtain ⟨hrequest, hexec⟩ := regionStatus_row n c clears value crc hrow
    refine ⟨_, _, State.carriesOut_of_own h hrequest (hexec s) admitted (writeDecision_regionStatus n _) (by decide),
      rfl, fun m hmn => ?_, ?_⟩
    · change (s.writeRegionStatus n (withClearCount clears value)).region m = _
      rw [s.writeRegionStatus_withClearCount, State.region_setRegion, if_neg hmn.symm]
    · change (s.writeRegionStatus n (withClearCount clears value)).region n = _
      rw [s.writeRegionStatus_withClearCount, State.region_setRegion_self]
  · refine ⟨_, writtenMode value, eccModeCode_writtenMode value hm, rfl,
      State.carriesOut_of_own (own := fun _ => writeDecision 0x1E#8 value) h rfl rfl admitted
        (writeDecision_eccInject value hm) (by decide), ?_⟩
    change field (eccModeCode (writtenMode value)) 0 = _
    rw [eccModeCode_writtenMode value hm, field_extractLsb']
    rfl
  · have refused : WriteRefused (0x1E#8 : Byte).toNat value := by
      have code : fieldOf value 0 2 = 3 := congrArg BitVec.toNat hm
      simp [WriteRefused, code]
    exact State.carriesOut_of_own (own := fun _ => writeDecision 0x1E#8 value) h rfl rfl admitted
      (writeDecision_of_refused _ value refused) (by decide)

end Sys2Proof.Machine
end

section
/-! SUPPORT. The acceptance point (R88 to R90, R112): which check rejects a record, what one moment's chain of offers passes,
and what a departure does to its source. -/

namespace Sys2Proof.Machine

/-! ### The checks of an update (R89) -/

/-- What the descriptor permits to a source. -/
def Region.permits (g : Region) : Source → Bool
  | .lane => g.desc.laneOk
  | .host => g.desc.hostOk

theorem rejectReason_eq (g : Region) (src : Source) (b : BinIx) :
    rejectReason g src b = if g.state ≠ .live then some 1#8 else if g.permits src = false then some 2#8
      else if g.desc.binsMinus1 < b then some 3#8 else none := by
  cases src <;> rfl

/-- The first check that fails gives the reason. -/
theorem rejectReason_eq_some_iff (g : Region) (src : Source) (b : BinIx) (reason : Byte) :
    rejectReason g src b = some reason ↔
      (g.state ≠ .live ∧ reason = 1#8)
        ∨ (g.state = .live ∧ g.permits src = false ∧ reason = 2#8)
        ∨ (g.state = .live ∧ g.permits src = true ∧ g.desc.binsMinus1 < b ∧ reason = 3#8) := by
  rw [rejectReason_eq]
  by_cases live : g.state = .live
  · cases permitted : g.permits src
    · simp [live, eq_comm (a := reason)]
    · by_cases inside : g.desc.binsMinus1 < b <;> simp [live, inside, eq_comm (a := reason)]
  · simp [live, eq_comm (a := reason)]

theorem rejectReason_isSome_iff (g : Region) (src : Source) (b : BinIx) :
    (rejectReason g src b).isSome = true
      ↔ g.state ≠ .live ∨ g.permits src = false ∨ g.desc.binsMinus1 < b := by
  rw [rejectReason_eq]
  by_cases live : g.state = .live
  · cases permitted : g.permits src <;> simp [live]
  · simp [live]

/-! ### One offer -/

theorem State.offer_of_no_head (s : State) (src : Source) (h : s.headRecord src = none) : s.offer src = (s, false) := by
  simp only [State.offer, h]

theorem State.offer_of_reject (s : State) (src : Source) (r : HostRecord) (reason : Byte)
    (h : s.headRecord src = some r) (hr : rejectReason (s.region r.region) src r.bin = some reason) :
    s.offer src = (s.reject src r reason, true) := by
  simp only [State.offer, h, hr]

/-- A record is rejected exactly if a check of R89 fails. -/
theorem State.offer_rejected_iff (s : State) (src : Source) (r : HostRecord) (h : s.headRecord src = some r) :
    (s.offer src).2 = true ↔ (rejectReason (s.region r.region) src r.bin).isSome = true := by
  simp only [State.offer, h]
  cases rejectReason (s.region r.region) src r.bin <;> simp

/-! ### The park slots (R111) -/

@[simp] theorem State.credit_parked (s : State) : s.credit.lane.parked = s.lane.parked := by
  unfold State.credit Lane.send
  split
  · dsimp only
    split <;> rfl
  · rfl

@[simp] theorem State.laneHandled_parked (s : State) : s.laneHandled.lane.parked = false := by
  unfold State.laneHandled
  dsimp only
  split
  · rw [State.credit_parked]
  · rfl

theorem State.depart_isParked (s : State) (src : Source) : (s.depart src).isParked src = false := by
  cases src with
  | lane => exact s.laneHandled_parked
  | host => rfl

theorem State.reject_isParked (s : State) (src : Source) (r : HostRecord) (reason : Byte) :
    (s.reject src r reason).isParked src = false := by
  have logged (t : State) (e : Event) : (t.log e).isParked src = t.isParked src := by cases src <;> simp [State.isParked]
  unfold State.reject
  dsimp only
  split
  · exact State.depart_isParked _ src
  · rw [logged]
    exact State.depart_isParked _ src

theorem State.handleOwn_parked (s : State) (h : s.lane.parked = false) : s.handleOwn.lane.parked = false := by
  have pad (t : State) (ht : t.lane.parked = false) : t.padRecord.lane.parked = false := by
    rcases t.padRecord_cases with ⟨_, _, -, -, he⟩ | he <;> simp [he, ht]
  have reserved (t : State) (ht : t.lane.parked = false) : t.reservedRecord.lane.parked = false := by
    rcases t.reservedRecord_cases with ⟨_, _, -, -, he⟩ | he <;> simp [he, ht]
  have records (n : Nat) : ∀ t : State, t.lane.parked = false → (t.ownRecords n).lane.parked = false := by
    induction n with
    | zero => exact fun t ht => ht
    | succ n ih =>
      intro t ht
      unfold State.ownRecords
      split
      · exact ih _ (reserved _ (pad _ ht))
      · exact ht
  exact records _ s h

/-! ### Rounds (R112) -/

/-- With both sources ready, the pointer's source is offered, and the other to what the first left. -/
theorem State.round_both (s : State) (a b : State × Bool) (ha : a = State.offer { s with turn := s.turn.other } s.turn)
    (hb : b = a.1.offer s.turn.other) :
    s.round true true = { state := b.1
                          laneRejected := if s.turn = .lane then a.2 else b.2
                          hostRejected := if s.turn = .lane then b.2 else a.2 } := by
  subst hb ha
  cases ht : s.turn <;> simp [State.round, ht, Source.other]

theorem State.round_lane (s : State) (b : State × Bool) (hb : b = State.offer { s with turn := .host } .lane) :
    s.round true false = { state := b.1, laneRejected := b.2, hostRejected := false } := by
  subst hb
  rfl

theorem State.round_host (s : State) (b : State × Bool) (hb : b = State.offer { s with turn := .lane } .host) :
    s.round false true = { state := b.1, laneRejected := false, hostRejected := b.2 } := by
  subst hb
  rfl

/-- The chain of offers after a round that left `x`. -/
theorem State.offers_of_round (s x t : State) (lane host laneRejected hostRejected : Bool)
    (hr : s.round lane host = { state := t, laneRejected, hostRejected })
    (hx : x = if laneRejected then t.handleOwn else t) :
    s.offers lane host = x.offers (laneRejected && x.ready .lane) (hostRejected && x.ready .host) := by
  rw [s.offers_eq, hr, hx]

/-- What follows a rejection at once: a lane record lets the lane handle the records of its own that come to the head
(R57). -/
def State.afterRejection (s : State) : Source → State
  | .lane => s.handleOwn
  | .host => s

/-- A source that alone is ready and whose record is rejected is offered again, in the same moment (R88, R90). -/
theorem State.offers_of_rejected (s v w : State) (src : Source)
    (hv : State.offer { s with turn := src.other } src = (v, true)) (hw : w = v.afterRejection src) :
    s.offers (decide (src = .lane)) (decide (src = .host))
      = w.offers (decide (src = .lane) && w.ready src) (decide (src = .host) && w.ready src) := by
  cases src with
  | lane => exact s.offers_of_round w v true false true false (s.round_lane _ hv.symm) hw
  | host => exact s.offers_of_round w v false true false true (s.round_host _ hv.symm) hw

theorem State.afterRejection_isParked (s : State) (src : Source) (h : s.isParked src = false) :
    (s.afterRejection src).isParked src = false := by
  cases src with
  | lane => exact s.handleOwn_parked h
  | host => exact h

theorem State.afterRejection_of_no_head (s : State) (src : Source) (h : s.lane.ownHead = false) :
    s.afterRejection src = s := by
  cases src with
  | lane => exact s.handleOwn_of_no_head h
  | host => rfl

theorem exec_updateAcceptance (s : State) (h : s.quiet) :
    exec .updateAcceptance s = .next (s.offers (s.ready .lane) (s.ready .host)) :=
  takeStep_of_quiet s (fun s => .next (s.offers (s.ready .lane) (s.ready .host))) h

/-- The only ready source is offered alone (R112). -/
theorem exec_updateAcceptance_single (s : State) (src : Source) (h : s.quiet) (hr : s.ready src = true)
    (ho : s.ready src.other = false) :
    exec .updateAcceptance s = .next (s.offers (decide (src = .lane)) (decide (src = .host))) := by
  rw [exec_updateAcceptance s h]
  cases src with
  | lane => rw [hr, show s.ready .host = false from ho]; rfl
  | host => rw [hr, show s.ready .lane = false from ho]; rfl

/-! ### What the lane handles itself (R57) -/

theorem State.handleOwn_reservedRecord (s : State) : s.reservedRecord.handleOwn = s.handleOwn := by
  rcases s.reservedRecord_cases with ⟨q, r, hh, ht, -⟩ | he
  · have hp : s.padRecord = s := by simp [State.padRecord, hh, ht]
    rw [s.handleOwn_step (by simp [Lane.ownHead, hh, ht]), hp]
  · rw [he]

theorem State.handleOwn_padRecord (s : State) : s.padRecord.handleOwn = s.handleOwn := by
  rcases s.padRecord_cases with ⟨q, r, hh, ht, -⟩ | he
  · rw [s.handleOwn_step (by simp [Lane.ownHead, hh, ht]), State.handleOwn_reservedRecord]
  · rw [he]

/-! ### Departures (R24, R57, R71) -/

/-- A host record departs with every remaining mark above 0 one lower (R24, R33). -/
theorem State.depart_host (s : State) (r : HostRecord) (rest : List HostRecord) (h : s.hostFifo = r :: rest) :
    s.depart .host = { s with
      hostFifo := rest
      hostParked := false
      commands := s.commands.map fun c => { c with mark := if c.mark = 0 then 0 else c.mark - 1 } } := by
  have lowered : ∀ n : Nat, (if n = 0 then 0 else n - 1) = n - 1 := fun n => by split <;> omega
  simp only [State.depart, State.hostDeparted, h, List.tail_cons, lowered]

/-- A lane record departs: the frame whose last it was frees its slot, with a CREDIT where R71 gives one. -/
theorem State.depart_lane (s : State) (f : LaneFrame) (fs : List LaneFrame) (r : UpdateRecord) (rs : List UpdateRecord)
    (credit : Bool) (hb : s.lane.buffer = f :: fs) (hf : f.records = r :: rs)
    (hc : credit = true ↔
      rs = [] ∧ s.lane.state = .locked ∧ s.power.state ≠ .quiescing ∧ s.lane.returnQueue.length < 8) :
    s.depart .lane = { s with
      lane := { s.lane with
        buffer := if rs = [] then fs else { f with records := rs } :: fs
        parked := false
        stallCount := 0
        stallReported := false
        returnQueue := s.lane.returnQueue ++ (if credit then [LaneMessage.credit] else []) } } := by
  cases rs with
  | cons q qs =>
    obtain rfl : credit = false := Bool.eq_false_iff.2 fun h => by simpa using (hc.1 h).1
    simp [State.depart, State.laneHandled, hb, hf, bufferAfterHead, Lane.endStall]
  | nil =>
    have handled : s.depart .lane = State.credit { s with
        lane := { s.lane.endStall with buffer := fs, parked := false } } := by
      simp [State.depart, State.laneHandled, hb, hf, bufferAfterHead]
    rw [handled]
    unfold State.credit Lane.send
    cases credit with
    | true =>
      obtain ⟨-, locked, running, room⟩ := hc.1 rfl
      simp [locked, running, room, Config.returnSlots, Lane.endStall]
    | false =>
      by_cases due : s.lane.state = .locked ∧ s.power.state ≠ .quiescing
      · have full : ¬ s.lane.returnQueue.length < 8 := fun room => Bool.false_ne_true (hc.2 ⟨rfl, due.1, due.2, room⟩)
        simp [due, full, Config.returnSlots, Lane.endStall]
      · simp [due, Lane.endStall]

/-- Settles O30: the rounds by the chain's own equation, and each departure field by field. -/
theorem roundsAndDepartures : Obligations.RoundsAndDepartures := by
  unfold Obligations.RoundsAndDepartures
  intro s
  refine ⟨exec_updateAcceptance s, s.offers_none, fun lane host a b laneRejected hostRejected x hround hx => ?_,
    s.offer_of_no_head, fun src r hr => ?_, s.handleOwn_of_no_head, fun t hheld htaken => ?_, s.depart_host,
    fun f fs r rs credit hb hf hc => s.depart_lane f fs r rs credit hb hf hc, rfl, rfl⟩
  · refine s.offers_of_round x b.1 lane host laneRejected hostRejected ?_ hx
    rcases hround with ⟨rfl, rfl, ha, hb, rfl, rfl⟩ | ⟨rfl, rfl, hb, rfl, rfl⟩ | ⟨rfl, rfl, hb, rfl, rfl⟩
    · exact s.round_both a b ha hb
    · exact s.round_lane b hb
    · exact s.round_host b hb
  · exact (s.offer_rejected_iff src r hr).trans (rejectReason_isSome_iff (s.region r.region) src r.bin)
  · have row (f : State → State) (h : takeOutstanding s f = .next t) : f s = t := by
      rw [takeOutstanding_of_not_held s f hheld] at h
      exact Host.Outcome.next.inj h
    rcases htaken with h | h
    · rw [← row State.padRecord h, State.handleOwn_padRecord]
    · rw [← row State.reservedRecord h, State.handleOwn_reservedRecord]

/-- Settles O28: the only ready source is offered, its record is rejected, and what follows is that source's next
record. -/
theorem rejectedUpdatesAreCounted : Obligations.RejectedUpdatesAreCounted := by
  unfold Obligations.RejectedUpdatesAreCounted
  intro src r reason g permitted s u v w hq hhead hparked hother hg hpermitted hreason hu hv hw
  subst hg hpermitted
  have after : w = v.afterRejection src := hw
  have head : State.headRecord { s with turn := src.other } src = some r := by cases src <;> exact hhead
  have why : rejectReason (s.region r.region) src r.bin = some reason :=
    (rejectReason_eq_some_iff _ src r.bin reason).2 hreason
  have left : v = State.reject { s with turn := src.other } src r reason := by
    rw [hv, hu]
    rfl
  have rejected : State.offer { s with turn := src.other } src = (v, true) :=
    left ▸ State.offer_of_reject _ src r reason head why
  have offered := exec_updateAcceptance_single s src hq (by simp [State.ready, hhead, hparked]) hother
  rw [s.offers_of_rejected v w src rejected after] at offered
  refine ⟨fun hn => ?_, fun hn => ?_, fun hown => after.trans (v.afterRejection_of_no_head src hown)⟩
  · have idle : w.ready src = false := by simp [State.ready, hn]
    rw [idle, Bool.and_false, Bool.and_false, State.offers_none] at offered
    exact offered
  · have unparked : w.isParked src = false :=
      after ▸ v.afterRejection_isParked src (left ▸ State.reject_isParked _ src r reason)
    have next : w.ready src = true := by simp [State.ready, Option.isSome_iff_ne_none.2 hn, unparked]
    rw [next, Bool.and_true, Bool.and_true] at offered
    exact offered

end Sys2Proof.Machine
end

section
/-! SUPPORT. The completions that write a counter without reading it: BIN_WRITE and INIT_STEP (R83, R84, R120, R152). -/

namespace Sys2Proof.Machine

/-! ### A counter that is accessed and stored (R143, R152) -/

/-- The mode that stays armed once counter data is stored: the injection that the operation took is spent, unless a mode
has been armed since (R152). -/
def State.eccStored (s : State) (c : CounterOp) : EccMode :=
  if c.inject ≠ .none ∧ s.array.eccRearmed = false then .none else s.array.ecc

/-- A counter accessed and stored: its words, the banks, the two row counters and the armed mode, and nothing else. -/
theorem State.storeAccessed_frame (s : State) (c : CounterOp) (bits : BitVec 64) :
    (s.accessCounter c).storeCounter c bits = { s with
      array := { s.array with
        words := ((s.accessCounter c).storeCounter c bits).array.words
        banks := (s.accessCounter c).array.banks, ecc := s.eccStored c }
      stats := (s.accessCounter c).stats } := by
  rw [s.accessCounter_frame c]
  rfl

theorem State.accessCounter_words (s : State) (c : CounterOp) :
    (s.accessCounter c).array.words = s.array.words := by
  rw [State.accessCounter_frame]

/-- A stored word with the injection that it takes (R152). -/
theorem injectedCell_eq (mode : EccMode) (v : Word) :
    injectedCell mode v = match mode with
      | .none => .clean v
      | .single => .single v
      | .double => .double v := by
  cases mode <;> rfl

/-- What the words read as once the counter is accessed and stored (R148, R152). -/
theorem State.storeAccessed_words (s : State) (c : CounterOp) (bits : BitVec 64) (m : Memory) (a : Nat) (wide : Bool)
    (hm : m = ((s.accessCounter c).storeCounter c bits).array.words) (hs : s.wordsCanonical)
    (hw : wide = c.desc.format.wide) (ha : a = counterAddress c.desc c.bin) :
    (∀ x, x ≠ a → (wide = false ∨ x ≠ a + 1) → m.read x = s.array.words.read x)
      ∧ m.read a = injectedCell c.inject (lowWord bits)
      ∧ (wide = true → m.read (a + 1) = .clean (highWord bits)) := by
  subst hm hw ha
  have canonical : (s.accessCounter c).wordsCanonical := by rwa [State.wordsCanonical, s.accessCounter_words c]
  refine ⟨fun x hlow hhigh => ?_, State.storeCounter_low _ c bits canonical,
    State.storeCounter_high _ c bits canonical⟩
  rw [State.storeCounter_other _ c bits x canonical, s.accessCounter_words c]
  unfold counterWords
  cases hf : c.desc.format.wide with
  | false => simp [hlow]
  | true => simpa [hlow, hf] using hhigh

/-! ### The fill (R83, R84) -/

theorem State.filled_of_filling (s : State) (t : Ticket) (r : RegionIx) (n : Nat)
    (h : s.regionController = .filling t r n) :
    s.filled = if n < (s.region r).desc.binsMinus1.toNat then { s with regionController := .filling t r (n + 1) }
      else { s.setRegionState r .live with regionController := .posting (plainCompletion t .ok) true } := by
  simp only [State.filled, h]

/-- A fill that goes on, or has ended, waits for no action moment (R80). -/
theorem State.filled_not_awaiting (s : State) (h : ∀ a, s.regionController ≠ .awaiting a) (a : RegionCommand) :
    s.filled.regionController ≠ .awaiting a := by
  unfold State.filled
  split
  · split
    · exact RegionController.noConfusion
    · exact RegionController.noConfusion
  · exact h a
  · exact h a
  · exact h a

/-! ### The two rows -/

theorem exec_binWriteCompletion {s : State} {t : Ticket} {c : CounterOp} {v : BitVec 64} (h : s.quiet)
    (hu : s.undisturbed) (ho : s.array.op = some (.binWrite t c v)) :
    exec .binWriteCompletion s = .next (State.endOp { (s.accessCounter c).storeCounter c v with
      binUnit := .posting (plainCompletion t .ok) }) := by
  obtain ⟨⟨lane, host⟩, idle⟩ := hu
  rw [show exec .binWriteCompletion s = execBinWriteCompletion s from rfl, execBinWriteCompletion,
    takeStep_of_quiet s _ h, ho]
  dsimp only
  rw [s.storeAccessed_frame c v]
  exact congrArg Host.Outcome.next (State.finishOp_plain _ _ (fun _ => ⟨lane, host⟩) idle)

theorem exec_initStepCompletion {s : State} {c : CounterOp} (h : s.quiet) (hu : s.undisturbed)
    (ho : s.array.op = some (.initStep c)) :
    exec .initStepCompletion s = .next ((s.accessCounter c).storeCounter c c.resetValue).filled.endOp := by
  obtain ⟨-, idle⟩ := hu
  rw [show exec .initStepCompletion s = execInitStepCompletion s from rfl, execInitStepCompletion,
    takeStep_of_quiet s _ h, ho]
  have waits := State.filled_not_awaiting ((s.accessCounter c).storeCounter c c.resetValue) (by
    rw [s.storeAccessed_frame c c.resetValue]
    exact idle)
  exact congrArg Host.Outcome.next (State.finishOp_plain _ false (fun hd => absurd hd Bool.false_ne_true) waits)

/-- Settles O38: both rows access and store the counter, and differ in what their unit holds afterwards. -/
theorem writingOperationsComplete : Obligations.WritingOperationsComplete := by
  unfold Obligations.WritingOperationsComplete
  intro c s w a wide bits row hq hu hs hwide ha hrow
  have words (t : State) (ht : t.array.words = ((s.accessCounter c).storeCounter c bits).array.words) :=
    s.storeAccessed_words c bits t.array.words a wide ht hs hwide ha
  simp only [injectedCell_eq] at words
  rcases hrow with ⟨rfl, ticket, ho, rfl⟩ | ⟨rfl, ho, rfl, ticket, r, n, hr, rfl⟩
  · refine ⟨_, exec_binWriteCompletion hq hu ho, ?_, words _ rfl⟩
    rw [s.storeAccessed_frame c bits]
    rfl
  · have filling : ((s.accessCounter c).storeCounter c c.resetValue).regionController = .filling ticket r n := by
      rw [s.storeAccessed_frame c c.resetValue]
      exact hr
    have table : ((s.accessCounter c).storeCounter c c.resetValue).region r = s.region r := by
      rw [s.storeAccessed_frame c c.resetValue]
      rfl
    refine ⟨_, exec_initStepCompletion hq hu ho, ?_, words _ ?_⟩
    · rw [State.filled_of_filling _ ticket r n filling, table]
      by_cases hn : n < (s.region r).desc.binsMinus1.toNat
      · rw [if_pos hn, if_pos hn, s.storeAccessed_frame c c.resetValue]
        rfl
      · rw [if_neg hn, if_neg hn, s.storeAccessed_frame c c.resetValue]
        rfl
    · rw [State.filled_of_filling _ ticket r n filling]
      split <;> rfl

end Sys2Proof.Machine
end

section
/-! SUPPORT. What the completion of a reading operation counts, reports and leaves of the state (R91, R104, R143, R148 to
R152). -/

namespace Sys2Proof.Machine

/-! ### The reports in numbers (R149, R150) -/

/-- CE_COUNT after the operation: one for each corrected word (R149). -/
def CounterOp.ceCounted (c : CounterOp) (n : Half) : Half :=
  if c.correctedLow && c.correctedHigh then satInc (satInc n)
  else if c.correctedLow || c.correctedHigh then satInc n else n

/-- UE_COUNT after the operation: one if a word was uncorrectable (R150). -/
def CounterOp.ueCounted (c : CounterOp) (n : Half) : Half :=
  if c.uncorrectableLow || c.uncorrectableHigh then satInc n else n

/-- The sticky causes after the operation (R149 to R151, R155). -/
def CounterOp.raised (c : CounterOp) (k : ReadKind) (g : Region) (sticky : BitVec 12) : BitVec 12 :=
  sticky ||| (if !c.poisoned && c.applied.sat && !g.satSeen then 0x040#12 else 0#12)
    ||| (if c.uncorrectableLow || c.uncorrectableHigh || (c.poisonHit k && !g.poisonSeen) then 0x080#12 else 0#12)
    ||| (if c.correctedLow || c.correctedHigh then 0x100#12 else 0#12)

/-- The three counts of a reading operation (R149, R150). -/
theorem State.onlyIf_counts (s : State) (c : CounterOp) :
    (((s.onlyIf c.correctedLow fun s => s.count .ceCount).onlyIf c.correctedHigh fun s => s.count .ceCount).onlyIf
        c.uncorrectable fun s => s.count .ueCount)
      = { s with stats := { s.stats with
            ceCount := c.ceCounted s.stats.ceCount, ueCount := c.ueCounted s.stats.ueCount } } := by
  unfold CounterOp.ceCounted CounterOp.ueCounted CounterOp.uncorrectable
  cases c.correctedLow <;> cases c.correctedHigh <;> cases c.uncorrectableLow || c.uncorrectableHigh <;> rfl

theorem State.onlyIf_raise (s : State) (p : Bool) (x : AlertCause) :
    (s.onlyIf p fun s => s.raise x) = { s with
      alerts := { s.alerts with sticky := s.alerts.sticky ||| (if p then alertBit x else 0#12) } } := by
  cases p with
  | true => rfl
  | false => simp [State.onlyIf]

/-- The three causes of a reading operation (R149 to R151, R155). -/
theorem State.onlyIf_raises (s : State) (c : CounterOp) (k : ReadKind) (g : Region) :
    (((s.onlyIf (reportsSaturated g c) fun s => s.raise .saturation).onlyIf
        (reportsPoisonHit g c k || c.uncorrectable) fun s => s.raise .integrity).onlyIf c.corrected
          fun s => s.raise .corrected)
      = { s with alerts := { s.alerts with sticky := c.raised k g s.alerts.sticky } } := by
  have integrity : (reportsPoisonHit g c k || c.uncorrectable)
      = (c.uncorrectableLow || c.uncorrectableHigh || (c.poisonHit k && !g.poisonSeen)) :=
    Bool.or_comm _ _
  rw [integrity, State.onlyIf_raise, State.onlyIf_raise, State.onlyIf_raise]
  rfl

/-- All that a reading operation reports. -/
theorem State.readReports_eq (s : State) (c : CounterOp) (k : ReadKind) :
    s.readReports c k = { s with
      eventLog := ((s.readEvents c k).foldl State.log s).eventLog
      moment := ((s.readEvents c k).foldl State.log s).moment
      lost := ((s.readEvents c k).foldl State.log s).lost
      stats := { s.stats with ceCount := c.ceCounted s.stats.ceCount, ueCount := c.ueCounted s.stats.ueCount }
      alerts := { s.alerts with sticky := c.raised k (s.region c.region) s.alerts.sticky } } := by
  obtain ⟨eventLog, moment, lost, logged⟩ : ∃ eventLog moment lost,
      (s.readEvents c k).foldl State.log s = { s with eventLog, moment, lost } := ⟨_, _, _, s.foldl_log_frame _⟩
  unfold State.readReports
  dsimp only
  rw [State.onlyIf_counts, State.onlyIf_raises, logged]

/-! ### The accesses beside the reports (R143) -/

/-- Accesses go by the banks, and count beside CE_COUNT and UE_COUNT. -/
theorem State.accessCounter_beside (s t : State) (c : CounterOp) (ce ue : Half) (ha : t.array = s.array)
    (hs : t.stats = { s.stats with ceCount := ce, ueCount := ue }) :
    (t.accessCounter c).array.banks = (s.accessCounter c).array.banks
      ∧ (t.accessCounter c).stats = { (s.accessCounter c).stats with ceCount := ce, ueCount := ue } := by
  have words (l : List Nat) : ∀ s t : State, t.array.banks = s.array.banks →
      t.stats = { s.stats with ceCount := ce, ueCount := ue } →
      (l.foldl State.access t).array.banks = (l.foldl State.access s).array.banks
        ∧ (l.foldl State.access t).stats = { (l.foldl State.access s).stats with ceCount := ce, ueCount := ue } := by
    induction l with
    | nil => exact fun s t hb hs => ⟨hb, hs⟩
    | cons a l ih =>
      intro s t hb hs
      refine ih (s.access a) (t.access a) ?_ ?_
      · simp only [State.access, hb]
      · simp only [State.access, State.count, hb, hs]
        split <;> rfl
  exact words _ s t (by rw [ha]) hs

/-! ### The words and the armed mode (R152) -/

/-- The operation writes counter data: always in a DRAIN step, and otherwise on a readable counter for a COMMIT, for a
withdrawn entry or for a corrected word (R117, R119, R132, R149). -/
abbrev CounterOp.storesFor (c : CounterOp) (k : ReadKind) : Prop :=
  k = .drain ∨ (c.poisoned = false
    ∧ (k = .commit ∨ c.withdrawn ≠ [] ∨ c.correctedLow = true ∨ c.correctedHigh = true))

theorem State.writeBack_of_stores (s : State) (c : CounterOp) (k : ReadKind) (h : c.storesFor k) :
    ∃ bits, s.writeBack c k = s.storeCounter c bits := by
  unfold State.writeBack
  rcases h with rfl | ⟨hp, hk⟩
  · exact ⟨_, if_pos rfl⟩
  · split
    · exact ⟨_, rfl⟩
    · have writes : (k = .commit || !c.withdrawn.isEmpty || c.corrected) = true := by
        simp only [Bool.or_eq_true, decide_eq_true_eq, Bool.not_eq_true', List.isEmpty_eq_false_iff,
          CounterOp.corrected, or_assoc]
        exact hk
      rw [if_neg (by simp [hp]), if_pos writes]
      exact ⟨_, rfl⟩

theorem State.writeBack_of_not_stores (s : State) (c : CounterOp) (k : ReadKind) (h : ¬ c.storesFor k) :
    s.writeBack c k = s := by
  unfold State.writeBack
  rw [if_neg fun hd => h (.inl hd)]
  split
  · rfl
  · rename_i hp
    refine if_neg fun hk => h (.inr ⟨Bool.eq_false_iff.2 hp, ?_⟩)
    simpa only [Bool.or_eq_true, decide_eq_true_eq, Bool.not_eq_true', List.isEmpty_eq_false_iff,
      CounterOp.corrected, or_assoc] using hk

/-- What a reading operation writes changes the words, and the armed mode where it writes counter data. -/
theorem State.written_frame (s : State) (c : CounterOp) (k : ReadKind) :
    ∃ words, (s.markPoisoned c k).writeBack c k = { s with
      array := { s.array with words, ecc := if c.storesFor k then s.eccStored c else s.array.ecc } } := by
  have marked : ∃ words, s.markPoisoned c k = { s with array := { s.array with words } } := by
    unfold State.markPoisoned
    split
    · exact ⟨_, rfl⟩
    · exact ⟨_, rfl⟩
  obtain ⟨words, hw⟩ := marked
  rw [hw]
  by_cases h : c.storesFor k
  · obtain ⟨bits, hb⟩ := State.writeBack_of_stores { s with array := { s.array with words } } c k h
    rw [hb, if_pos h]
    exact ⟨_, rfl⟩
  · rw [State.writeBack_of_not_stores _ c k h, if_neg h]
    exact ⟨_, rfl⟩

/-- All that a reading operation does to the state at its completion, field by field, with the words it leaves. -/
theorem State.readCounter_eq (s : State) (c : CounterOp) (k : ReadKind) :
    ∃ words, s.readCounter c k = { s with
      array := { s.array with
        words, banks := (s.accessCounter c).array.banks
        ecc := if c.storesFor k then s.eccStored c else s.array.ecc }
      regions := s.regions.set c.region.toNat (flagged (s.region c.region) c k) c.region.isLt
      stats := { (s.accessCounter c).stats with
        ceCount := c.ceCounted s.stats.ceCount, ueCount := c.ueCounted s.stats.ueCount }
      alerts := { s.alerts with sticky := c.raised k (s.region c.region) s.alerts.sticky }
      eventLog := ((s.readEvents c k).foldl State.log s).eventLog
      moment := ((s.readEvents c k).foldl State.log s).moment
      lost := ((s.readEvents c k).foldl State.log s).lost } := by
  obtain ⟨banks, stats⟩ := State.accessCounter_beside s (s.readReports c k) c (c.ceCounted s.stats.ceCount)
    (c.ueCounted s.stats.ueCount) (by rw [State.readReports_eq]) (by rw [State.readReports_eq])
  have accessed : (s.readReports c k).accessCounter c = { s.readReports c k with
      array := { (s.readReports c k).array with banks := (s.accessCounter c).array.banks }
      stats := { (s.accessCounter c).stats with
        ceCount := c.ceCounted s.stats.ceCount, ueCount := c.ueCounted s.stats.ueCount } } := by
    rw [← banks, ← stats]
    exact State.accessCounter_frame _ c
  obtain ⟨words, written⟩ := State.written_frame ((s.readReports c k).accessCounter c) c k
  refine ⟨words, ?_⟩
  unfold State.readCounter
  dsimp only
  rw [written, accessed, s.readReports_eq c k]
  rfl

/-! ### The rows (R117, R119, R132) -/

theorem exec_commitCompletion {s : State} {c : CounterOp} (h : s.quiet) (hu : s.undisturbed)
    (ho : s.array.op = some (.commit c)) :
    exec .commitCompletion s = .next (s.readCounter c .commit).endOp := by
  rw [show exec .commitCompletion s = execCommitCompletion s from rfl, execCommitCompletion,
    takeStep_of_quiet s _ h, ho]
  exact congrArg Host.Outcome.next
    (State.finishOp_of_read c .commit (!c.withdrawn.isEmpty) hu rfl rfl rfl)

/-- What the units themselves deliver at the end of an operation: the Bin Access Unit its completion, the Sweep Engine its
record and the head sweep. -/
def State.withDelivery (s : State) (unit : BinUnit) (readout : List ReadoutRecord) (seq : Byte) (sweeps : List Sweep) :
    State :=
  { s with binUnit := unit, readout, readoutSeq := seq, sweeps }

/-- The reading of a counter itself delivers nothing. -/
theorem State.readCounter_withDelivery (s : State) (c : CounterOp) (k : ReadKind) (unit : BinUnit) :
    (s.readCounter c k).withDelivery unit s.readout s.readoutSeq s.sweeps = { s.readCounter c k with binUnit := unit } := by
  rw [State.readCounter_frame]
  rfl

/-- The row of a reading operation ends the operation on what the counter's reading left, beside what its own unit
delivers. -/
theorem exec_completesReading {row : Instr} {c : CounterOp} {k : ReadKind} {s : State} (h : s.quiet) (hu : s.undisturbed)
    (hr : s.completesReading row c k) :
    ∃ unit readout seq sweeps,
      exec row s = .next ((s.readCounter c k).withDelivery unit readout seq sweeps).endOp
        ∧ (k = .commit → unit = s.binUnit)
        ∧ (row ≠ .sweepStepCompletion → readout = s.readout ∧ seq = s.readoutSeq ∧ sweeps = s.sweeps)
        ∧ (row = .sweepStepCompletion → unit = s.binUnit) := by
  rcases hr with ⟨rfl, rfl, ho⟩ | ⟨rfl, rfl, t, ho⟩ | ⟨rfl, ho, w, rest, hs, hk⟩
  · refine ⟨s.binUnit, s.readout, s.readoutSeq, s.sweeps, ?_, fun _ => rfl, fun _ => ⟨rfl, rfl, rfl⟩, nofun⟩
    rw [exec_commitCompletion h hu ho, State.readCounter_withDelivery, State.readCounter_frame]
  · refine ⟨.posting (readCompletion t c.desc.format c.poisoned
      (if c.poisoned then 0#64 else c.desc.format.encode c.forwardedValue)), s.readout, s.readoutSeq, s.sweeps, ?_,
      nofun, fun _ => ⟨rfl, rfl, rfl⟩, nofun⟩
    rw [exec_binReadCompletion h hu ho, State.readCounter_withDelivery]
  · have unit : (s.readCounter c k).binUnit = s.binUnit := by rw [State.readCounter_frame]
    let placed := (s.readCounter c k).placeRecord (stepRecord w c)
    refine ⟨s.binUnit, placed.readout, placed.readoutSeq, w.stepped c placed.readout.length :: rest, ?_, fun _ => rfl,
      fun hc => absurd rfl hc, fun _ => rfl⟩
    rw [exec_sweepStepCompletion h hu ho hs hk, ← unit]
    rfl

/-! ### The events (R149 to R151, R158) -/

/-- DETAIL of CORRECTED and UNCORRECTABLE, where a word is at fault: 1 low, 2 high, 3 both. -/
theorem wordsDetail_eq (low high : Bool) (h : (low || high) = true) :
    wordsDetail low high = if low && high then 3#16 else if high then 2#16 else 1#16 := by
  cases low <;> cases high
  · cases h
  all_goals rfl

/-- The events of a reading operation, with their details spelled out. -/
theorem State.readEvents_eq (s : State) (c : CounterOp) (k : ReadKind)
    (event : EventCode → EventSource → Half → Event)
    (he : ∀ code source detail, event code source detail = s.event code source (some (c.region, c.bin)) detail) :
    s.readEvents c k =
      (if !c.poisoned && c.applied.sat && !(s.region c.region).satSeen then [event .saturated .engine 0#16] else [])
        ++ (if c.poisonHit k && !(s.region c.region).poisonSeen then [event .poisonHit .engine 0#16] else [])
        ++ (if c.correctedLow || c.correctedHigh then
              [event .corrected .array
                (if c.correctedLow && c.correctedHigh then 3#16 else if c.correctedHigh then 2#16 else 1#16)]
            else [])
        ++ (if c.uncorrectableLow || c.uncorrectableHigh then
              [event .uncorrectable .array
                (if c.uncorrectableLow && c.uncorrectableHigh then 3#16
                  else if c.uncorrectableHigh then 2#16 else 1#16)]
            else []) := by
  have detail (low high : Bool) (code : EventCode) :
      (if low || high then [s.event code .array (some (c.region, c.bin)) (wordsDetail low high)] else [])
        = if low || high then
            [event code .array (if low && high then 3#16 else if high then 2#16 else 1#16)] else [] := by
    cases hw : low || high with
    | false => rfl
    | true => rw [wordsDetail_eq low high hw, he]
  rw [← detail, ← detail, he, he]
  rfl

/-- Settles O36: the row ends the operation on what the reading of the counter left, of which every field is known. -/
theorem readingOperationsReport : Obligations.ReadingOperationsReport := by
  unfold Obligations.ReadingOperationsReport
  intro row c k s g cl ch ul uh poisoned hit ap event hq hu hr hg hcl hch hul huh hpoisoned hhit hap hevent
  obtain rfl : cl = c.correctedLow := hcl
  obtain rfl : ch = c.correctedHigh := hch
  obtain rfl : ul = c.uncorrectableLow := hul
  obtain rfl : uh = c.uncorrectableHigh := huh
  obtain rfl : poisoned = c.poisoned := hpoisoned
  obtain rfl : hit = c.poisonHit k := hhit
  obtain rfl : ap = c.applied := hap
  subst hg
  obtain ⟨unit, readout, seq, sweeps, hrow, hcommit, hother, hsweep⟩ := exec_completesReading hq hu hr
  obtain ⟨words, hread⟩ := s.readCounter_eq c k
  have ecc : (if c.storesFor k then s.eccStored c else s.array.ecc)
      = if c.storesFor k ∧ c.inject ≠ .none ∧ s.array.eccRearmed = false then .none else s.array.ecc := by
    by_cases h : c.storesFor k <;> simp [h, State.eccStored]
  have flags : flagged (s.region c.region) c k = { s.region c.region with
      satSeen := (s.region c.region).satSeen || (!c.poisoned && c.applied.sat)
      wrapSeen := (s.region c.region).wrapSeen || (!c.poisoned && c.applied.wrap)
      poisonSeen := (s.region c.region).poisonSeen || c.uncorrectableLow || c.uncorrectableHigh || c.poisonHit k } := by
    simp only [flagged, CounterOp.uncorrectable, Bool.or_assoc]
  rw [hread, ecc, flags] at hrow
  refine ⟨_, hrow, ?_, hcommit, hother, hsweep, ?_⟩
  · rfl
  · rw [← s.readEvents_eq c k event hevent]
    rfl

end Sys2Proof.Machine
end

section
/-! SUPPORT. The acceptance point does not look at the Region Controller: whatever it holds, the same updates pass, and it
holds the same afterwards (R80, R88). -/

namespace Sys2Proof.Machine

/-- The Region Controller holds something else. -/
def State.withController (s : State) (k : RegionController) : State := { s with regionController := k }

section
variable (s : State) (k : RegionController)

/-! ### What the change leaves alone -/

theorem State.withController_lane : (s.withController k).lane = s.lane := rfl
theorem State.withController_entries : (s.withController k).entries = s.entries := rfl
theorem State.withController_region (r : RegionIx) : (s.withController k).region r = s.region r := rfl
theorem State.withController_event (code : EventCode) (source : EventSource) (place : Option (RegionIx × BinIx))
    (detail : Half) : (s.withController k).event code source place detail = s.event code source place detail := rfl

theorem State.withController_headRecord (src : Source) : (s.withController k).headRecord src = s.headRecord src := by
  cases src <;> rfl

theorem State.withController_ready (src : Source) : (s.withController k).ready src = s.ready src := by
  cases src <;> rfl

/-! ### Departures, parking and rejection -/

theorem State.log_withController (e : Event) : (s.withController k).log e = (s.log e).withController k := by
  unfold State.log
  rw [apply_ite (State.withController · k)]
  rfl

theorem State.count_withController (c : StatCounter) : (s.withController k).count c = (s.count c).withController k := rfl

theorem State.raise_withController (c : AlertCause) : (s.withController k).raise c = (s.raise c).withController k := rfl

theorem State.credit_withController : (s.withController k).credit = s.credit.withController k := by
  unfold State.credit
  rw [apply_ite (State.withController · k)]
  rfl

theorem State.laneHandled_withController : (s.withController k).laneHandled = s.laneHandled.withController k := by
  unfold State.laneHandled
  dsimp only
  rw [apply_ite (State.withController · k), ← State.credit_withController]
  rfl

theorem State.depart_withController (src : Source) : (s.withController k).depart src = (s.depart src).withController k := by
  cases src with
  | lane => exact s.laneHandled_withController k
  | host => rfl

theorem State.park_withController (src : Source) : (s.withController k).park src = (s.park src).withController k := by
  cases src <;> rfl

theorem State.reject_withController (src : Source) (r : HostRecord) (reason : Byte) :
    (s.withController k).reject src r reason = (s.reject src r reason).withController k := by
  unfold State.reject
  dsimp only
  rw [apply_ite (State.withController · k), ← State.log_withController, ← State.depart_withController]
  rfl

/-! ### Placement (R110) -/

theorem State.openEntry_withController (src : Source) (r : HostRecord) (v : Int) :
    (s.withController k).openEntry src r v = (s.openEntry src r v).withController k := by
  unfold State.openEntry
  rw [apply_ite (State.withController · k), ← State.depart_withController, ← State.park_withController]
  rfl

theorem State.place_withController (src : Source) (r : HostRecord) (v : Int) :
    (s.withController k).place src r v = (s.place src r v).withController k := by
  simp only [State.place, State.withController_entries]
  cases s.entries.find? fun e => e.isOpenOf r.region r.bin with
  | none => exact s.openEntry_withController k src r v
  | some e =>
    dsimp only
    rw [apply_ite (State.withController · k), ← State.depart_withController, ← State.openEntry_withController]
    rfl

theorem State.offer_withController (src : Source) :
    (s.withController k).offer src = ((s.offer src).1.withController k, (s.offer src).2) := by
  simp only [State.offer, State.withController_headRecord, State.withController_region]
  cases s.headRecord src with
  | none => rfl
  | some r =>
    dsimp only
    cases rejectReason (s.region r.region) src r.bin with
    | none => exact congrArg (·, false) (s.place_withController k src r _)
    | some reason => exact congrArg (·, true) (s.reject_withController k src r reason)

/-! ### What the lane handles itself (R57) -/

theorem State.padRecord_withController : (s.withController k).padRecord = s.padRecord.withController k := by
  simp only [State.padRecord, State.withController_lane]
  cases s.lane.head with
  | none => rfl
  | some x =>
    dsimp only
    rw [apply_ite (State.withController · k), ← State.laneHandled_withController]

theorem State.reservedRecord_withController :
    (s.withController k).reservedRecord = s.reservedRecord.withController k := by
  simp only [State.reservedRecord, State.withController_lane]
  cases s.lane.head with
  | none => rfl
  | some x =>
    dsimp only
    rw [apply_ite (State.withController · k), State.laneHandled_withController, State.count_withController,
      State.withController_event, State.log_withController, State.raise_withController]

end

theorem State.ownRecords_withController (s : State) (k : RegionController) (n : Nat) :
    (s.withController k).ownRecords n = (s.ownRecords n).withController k := by
  induction n generalizing s with
  | zero => rfl
  | succ n ih =>
    unfold State.ownRecords
    rw [apply_ite (State.withController · k), ← ih, ← State.reservedRecord_withController,
      ← State.padRecord_withController]
    rfl

theorem State.handleOwn_withController (s : State) (k : RegionController) :
    (s.withController k).handleOwn = s.handleOwn.withController k :=
  s.ownRecords_withController k _

/-! ### Rounds and the chain of offers (R88, R90, R112) -/

theorem State.round_withController (s : State) (k : RegionController) (lane host : Bool) :
    (s.withController k).round lane host
      = { s.round lane host with state := (s.round lane host).state.withController k } := by
  have offered (turn src : Source) : State.offer { s.withController k with turn } src
      = ((State.offer { s with turn } src).1.withController k, (State.offer { s with turn } src).2) :=
    State.offer_withController { s with turn } k src
  cases lane with
  | false =>
    cases host with
    | false => rfl
    | true => rw [s.round_host _ rfl, (s.withController k).round_host _ rfl, offered]
  | true =>
    cases host with
    | false => rw [s.round_lane _ rfl, (s.withController k).round_lane _ rfl, offered]
    | true =>
      rw [s.round_both _ _ rfl rfl, (s.withController k).round_both _ _ rfl rfl,
        show (s.withController k).turn = s.turn from rfl, offered, State.offer_withController]

theorem State.rounds_withController (s : State) (k : RegionController) (lane host : Bool) (n : Nat) :
    (s.withController k).rounds lane host n = (s.rounds lane host n).withController k := by
  induction n generalizing s lane host with
  | zero => rfl
  | succ n ih =>
    have handled (p : Bool) (t : State) : (if p then (t.withController k).handleOwn else t.withController k)
        = (if p then t.handleOwn else t).withController k := by
      rw [apply_ite (State.withController · k), State.handleOwn_withController]
    unfold State.rounds
    dsimp only
    rw [apply_ite (State.withController · k), State.round_withController, handled, ih, State.withController_ready,
      State.withController_ready]

theorem State.offers_withController (s : State) (k : RegionController) (lane host : Bool) :
    (s.withController k).offers lane host = (s.offers lane host).withController k :=
  s.rounds_withController k lane host _

/-- Offers leave the Region Controller as it is (R80). -/
theorem State.offers_regionController (s : State) (lane host : Bool) :
    (s.offers lane host).regionController = s.regionController :=
  (congrArg State.regionController (s.offers_withController s.regionController lane host) :)

theorem State.passUnparked_withController (s : State) (k : RegionController) :
    (s.withController k).passUnparked = s.passUnparked.withController k := by
  unfold State.passUnparked
  rw [apply_ite (State.withController · k), ← State.offers_withController, State.withController_ready,
    State.withController_ready]
  rfl

theorem State.passUnparked_regionController (s : State) : s.passUnparked.regionController = s.regionController :=
  (congrArg State.regionController (s.passUnparked_withController s.regionController) :)

theorem State.reoffer_regionController (s : State) : s.reoffer.regionController = s.regionController := by
  unfold State.reoffer
  split
  · exact s.offers_regionController _ _
  · rfl

/-! ### The action moment (R80, R88, R111) -/

/-- The action moment of a command that waits: what passes before it, its action, and the re-offer of the parked
records. -/
theorem State.actionMoment_of_awaiting (s : State) (a : RegionCommand) (h : s.regionController = .awaiting a) :
    s.actionMoment = (s.act a).reofferParked :=
  (s.beforeAction_actionMoment a h).2

/-- A region command that is handed over while an operation is in progress waits (R80). -/
theorem State.takeRegionCommand_busy (s : State) (a : RegionCommand) (h : s.array.op ≠ none) :
    s.takeRegionCommand a = s.withController (.awaiting a) :=
  if_pos (Option.isSome_iff_ne_none.2 h)

/-- With the array idle it acts at once, after the updates that pass before it (R80, R88). -/
theorem State.takeRegionCommand_idle (s : State) (a : RegionCommand) (h : s.array.op = none) :
    s.takeRegionCommand a = (s.passUnparked.act a).reofferParked := by
  obtain ⟨before, -⟩ := (s.withController (.awaiting a)).beforeAction_actionMoment a rfl
  have idle : ¬ (s.withController (.awaiting a)).array.op.isSome = true := by
    rw [show (s.withController (.awaiting a)).array.op = none from h]
    exact Bool.false_ne_true
  calc s.takeRegionCommand a
    _ = (s.withController (.awaiting a)).beforeAction.actionMoment := if_neg idle
    _ = (s.passUnparked.withController (.awaiting a)).actionMoment := by
      rw [before, State.passUnparked_withController]
    _ = ((s.passUnparked.withController (.awaiting a)).act a).reofferParked := State.actionMoment_of_awaiting _ a rfl
    _ = (s.passUnparked.act a).reofferParked := congrArg State.reofferParked (State.act_withController _ _ a)

end Sys2Proof.Machine
end

section
/-! SUPPORT. The end of an array operation with records parked or a region command waiting (R80, R88, R111): the operation's
own effects do not look at either, and the re-offers and the action come after them. -/

namespace Sys2Proof.Machine

/-! ### A state with and without what the end of an operation re-offers -/

/-- Other park slots, and another holding of the Region Controller. -/
def State.disturbed (s : State) (lane host : Bool) (k : RegionController) : State :=
  { s with lane := { s.lane with parked := lane }, hostParked := host, regionController := k }

/-- What the Region Controller holds besides a command that waits for its action moment. -/
def RegionController.calmed : RegionController → RegionController
  | .awaiting _ => .idle
  | k => k

/-- The state with no record parked and no region command waiting. -/
def State.calmed (s : State) : State := s.disturbed false false s.regionController.calmed

/-- What the Region Controller holds at the end of an operation at whose beginning it held `k`, where it is left with `k'`
with no command waiting: a command that waits still waits. -/
def RegionController.restored (k k' : RegionController) : RegionController :=
  match k with
  | .awaiting a => .awaiting a
  | _ => k'

/-- A calm outcome with the parked records and the waiting command of `s` put back. -/
def State.restored (t s : State) : State :=
  t.disturbed s.lane.parked s.hostParked (s.regionController.restored t.regionController)

theorem RegionController.calmed_ne_awaiting (k : RegionController) (a : RegionCommand) : k.calmed ≠ .awaiting a := by
  cases k <;> exact RegionController.noConfusion

theorem RegionController.filling_of_calmed (k : RegionController) (t : Ticket) (r : RegionIx) (n : Nat)
    (h : k.calmed = .filling t r n) : k = .filling t r n := by
  cases k with
  | awaiting a => cases h
  | idle | filling | posting => exact h

theorem RegionController.restored_calmed (k : RegionController) : k.restored k.calmed = k := by
  cases k <;> rfl

/-! ### Effects that look at neither -/

/-- The effect neither looks at the park slots and the Region Controller nor changes them. -/
def BlindToDisturbance (f : State → State) : Prop :=
  ∀ (s : State) (lane host : Bool) (k : RegionController), f (s.disturbed lane host k) = (f s).disturbed lane host k

theorem BlindToDisturbance.comp {f g : State → State} (hg : BlindToDisturbance g) (hf : BlindToDisturbance f) :
    BlindToDisturbance fun s => g (f s) := fun s lane host k => (congrArg g (hf s lane host k)).trans (hg _ lane host k)

/-- What the effect leaves of them: all of it. -/
theorem BlindToDisturbance.regionController {f : State → State} (hf : BlindToDisturbance f) (s : State) :
    (f s).regionController = s.regionController :=
  (congrArg State.regionController (hf s s.lane.parked s.hostParked s.regionController) :)

theorem blindToDisturbance_log (e : Event) : BlindToDisturbance fun s => s.log e := fun s lane host k => by
  unfold State.log
  rw [apply_ite (State.disturbed · lane host k)]
  rfl

theorem blindToDisturbance_logs (l : List Event) : BlindToDisturbance fun s => l.foldl State.log s := by
  induction l with
  | nil => exact fun _ _ _ _ => rfl
  | cons e l ih => exact ih.comp (blindToDisturbance_log e)

theorem blindToDisturbance_readReports (c : CounterOp) (k : ReadKind) : BlindToDisturbance fun s => s.readReports c k := by
  intro s lane host rc
  have logged : (s.readEvents c k).foldl State.log (s.disturbed lane host rc)
      = ((s.readEvents c k).foldl State.log s).disturbed lane host rc := blindToDisturbance_logs _ s lane host rc
  dsimp only
  rw [State.readReports_eq, State.readReports_eq,
    show (s.disturbed lane host rc).readEvents c k = s.readEvents c k from rfl, logged]
  rfl

theorem blindToDisturbance_accessCounter (c : CounterOp) : BlindToDisturbance fun s => s.accessCounter c := by
  have accesses (l : List Nat) : BlindToDisturbance fun s => l.foldl State.access s := by
    induction l with
    | nil => exact fun _ _ _ _ => rfl
    | cons a l ih => exact ih.comp fun _ _ _ _ => rfl
  exact accesses _

theorem blindToDisturbance_storeCounter (c : CounterOp) (bits : BitVec 64) : BlindToDisturbance fun s => s.storeCounter c bits :=
  fun _ _ _ _ => rfl

theorem blindToDisturbance_markPoisoned (c : CounterOp) (k : ReadKind) : BlindToDisturbance fun s => s.markPoisoned c k := by
  intro s lane host rc
  unfold State.markPoisoned
  rw [apply_ite (State.disturbed · lane host rc)]
  rfl

theorem blindToDisturbance_writeBack (c : CounterOp) (k : ReadKind) : BlindToDisturbance fun s => s.writeBack c k := by
  intro s lane host rc
  unfold State.writeBack
  rw [apply_ite (State.disturbed · lane host rc), apply_ite (State.disturbed · lane host rc),
    apply_ite (State.disturbed · lane host rc)]
  rfl

theorem blindToDisturbance_readCounter (c : CounterOp) (k : ReadKind) : BlindToDisturbance fun s => s.readCounter c k := by
  have written := ((blindToDisturbance_writeBack c k).comp (blindToDisturbance_markPoisoned c k)).comp
    ((blindToDisturbance_accessCounter c).comp (blindToDisturbance_readReports c k))
  intro s lane host rc
  exact congrArg (State.setRegion · c.region (flagged (s.region c.region) c k)) (written s lane host rc)

/-! ### Effects at the end of an operation -/

/-- The effect of an operation on a calm state is calm, and on any state it is that effect with the parked records and the
waiting command put back. -/
def KeepsDisturbance (f : State → State) : Prop :=
  ∀ s : State, (f s.calmed).undisturbed ∧ f s = (f s.calmed).restored s

theorem BlindToDisturbance.keepsDisturbance {f : State → State} (hf : BlindToDisturbance f) : KeepsDisturbance f := by
  intro s
  have calm : f s.calmed = (f s).disturbed false false s.regionController.calmed := hf s _ _ _
  have own : f s = (f s).disturbed s.lane.parked s.hostParked s.regionController := hf s _ _ _
  refine ⟨?_, ?_⟩
  · rw [calm]
    exact ⟨⟨rfl, rfl⟩, s.regionController.calmed_ne_awaiting⟩
  · calc f s
      _ = (f s).disturbed s.lane.parked s.hostParked s.regionController := own
      _ = (f s).disturbed s.lane.parked s.hostParked (s.regionController.restored s.regionController.calmed) := by
        rw [RegionController.restored_calmed]
      _ = (f s.calmed).restored s := by
        rw [calm]
        rfl

/-- The fill after a completed step, where there is one, keeps the park slots (R83, R84). -/
theorem State.filled_disturbed (s : State) (lane host : Bool) (t : Ticket) (r : RegionIx) (n : Nat)
    (h : s.regionController = .filling t r n) :
    (s.disturbed lane host (.filling t r n)).filled = s.filled.disturbed lane host s.filled.regionController := by
  rw [s.filled_of_filling t r n h, State.filled_of_filling (s.disturbed lane host (.filling t r n)) t r n rfl]
  by_cases more : n < (s.region r).desc.binsMinus1.toNat
  · rw [if_pos more]
    exact if_pos more
  · rw [if_neg more]
    exact if_neg more

theorem State.filled_of_not_filling (s : State) (h : ∀ t r n, s.regionController ≠ .filling t r n) : s.filled = s := by
  unfold State.filled
  split
  · exact absurd ‹_› (h _ _ _)
  · rfl
  · rfl
  · rfl

/-- The fill after a completed step keeps a waiting command, and goes on beside parked records (R83, R84). -/
theorem BlindToDisturbance.filled_keepsDisturbance {f : State → State} (hf : BlindToDisturbance f) :
    KeepsDisturbance fun s => (f s).filled := by
  intro s
  have held := hf.regionController s
  have heldCalm := hf.regionController s.calmed
  by_cases filling : ∃ t r n, s.regionController = .filling t r n
  · obtain ⟨t, r, n, hk⟩ := filling
    have goesOn (lane host : Bool) := (f s).filled_disturbed lane host t r n (held.trans hk)
    have calm : (f s.calmed).filled = (f s).filled.disturbed false false (f s).filled.regionController := by
      have h : f s.calmed = (f s).disturbed false false s.regionController.calmed := hf s _ _ _
      rw [h, hk]
      exact goesOn false false
    have own : (f s).filled = (f s).filled.disturbed s.lane.parked s.hostParked (f s).filled.regionController := by
      have h : f s = (f s).disturbed s.lane.parked s.hostParked (.filling t r n) := hk ▸ hf s _ _ s.regionController
      exact (congrArg State.filled h).trans (goesOn _ _)
    dsimp only
    rw [calm]
    refine ⟨⟨⟨rfl, rfl⟩, State.filled_not_awaiting _ fun a h => ?_⟩, ?_⟩
    · exact RegionController.noConfusion (hk.symm.trans (held.symm.trans h))
    · rw [State.restored, hk]
      exact own
  · have kept : (f s).filled = f s := (f s).filled_of_not_filling fun t r n h => filling ⟨t, r, n, held ▸ h⟩
    have keptCalm : (f s.calmed).filled = f s.calmed := (f s.calmed).filled_of_not_filling fun t r n h =>
      filling ⟨t, r, n, s.regionController.filling_of_calmed t r n (heldCalm.symm.trans h)⟩
    dsimp only
    rw [kept, keptCalm]
    exact hf.keepsDisturbance s

theorem State.withdrawn_of_op {s : State} {op : ArrayOp} (h : s.array.op = some op) : s.withdrawn = op.withdrawn := by
  rw [State.withdrawn, h]
  rfl

/-- The completions of array operations: each does its own effect and then ends the operation, whose withdrawn entries
depart (R116, R144). -/
theorem exec_of_completes {row : Instr} {s : State} (h : s.completes row) :
    ∃ (effect : State → State) (departed : Bool), KeepsDisturbance effect ∧ (departed = true ↔ s.withdrawn ≠ [])
      ∧ ∀ t : State, t.quiet → t.array.op = s.array.op → t.sweeps = s.sweeps →
          exec row t = .next ((effect t).finishOp departed) := by
  have departs {op : ArrayOp} {c : CounterOp} (ho : s.array.op = some op) (hw : op.withdrawn = c.withdrawn) :
      (!c.withdrawn.isEmpty) = true ↔ s.withdrawn ≠ [] := by
    rw [State.withdrawn_of_op ho, hw]
    simp
  have stays {op : ArrayOp} (ho : s.array.op = some op) (hw : op.withdrawn = []) :
      false = true ↔ s.withdrawn ≠ [] := by
    rw [State.withdrawn_of_op ho, hw]
    simp
  have delivers (u : BinUnit) : BlindToDisturbance fun t => { t with binUnit := u } := fun _ _ _ _ => rfl
  rcases h with ⟨rfl, c, ho⟩ | ⟨rfl, ticket, c, ho⟩ | ⟨rfl, ticket, c, v, ho⟩ | ⟨rfl, hs, c, ho⟩ | ⟨rfl, c, ho, hw⟩
    | ⟨rfl, ho⟩ | ⟨rfl, r, ho⟩
  · refine ⟨fun t => t.readCounter c .commit, !c.withdrawn.isEmpty,
      (blindToDisturbance_readCounter c .commit).keepsDisturbance, departs ho rfl, fun t hq hop _ => ?_⟩
    rw [show exec .commitCompletion t = execCommitCompletion t from rfl, execCommitCompletion,
      takeStep_of_quiet t _ hq, hop, ho]
  · refine ⟨_, !c.withdrawn.isEmpty, ((delivers (.posting (readCompletion ticket c.desc.format c.poisoned
        (if c.poisoned then 0#64 else c.desc.format.encode c.forwardedValue)))).comp
      (blindToDisturbance_readCounter c .binRead)).keepsDisturbance, departs ho rfl, fun t hq hop _ => ?_⟩
    rw [show exec .binReadCompletion t = execBinReadCompletion t from rfl, execBinReadCompletion,
      takeStep_of_quiet t _ hq, hop, ho]
  · refine ⟨_, !c.withdrawn.isEmpty, ((delivers (.posting (plainCompletion ticket .ok))).comp
      ((blindToDisturbance_storeCounter c v).comp (blindToDisturbance_accessCounter c))).keepsDisturbance,
      departs ho rfl, fun t hq hop _ => ?_⟩
    rw [show exec .binWriteCompletion t = execBinWriteCompletion t from rfl, execBinWriteCompletion,
      takeStep_of_quiet t _ hq, hop, ho]
  · obtain ⟨w, rest, hs⟩ := List.exists_cons_of_ne_nil hs
    have steps : BlindToDisturbance fun t => { t.placeRecord (stepRecord w c) with
        sweeps := w.stepped c (t.placeRecord (stepRecord w c)).readout.length :: rest } := fun _ _ _ _ => rfl
    refine ⟨_, !c.withdrawn.isEmpty,
      (steps.comp (blindToDisturbance_readCounter c (if w.isDrain then .drain else .snapshot))).keepsDisturbance,
      departs ho rfl, fun t hq hop hsweeps => ?_⟩
    rw [show exec .sweepStepCompletion t = execSweepStepCompletion t from rfl, execSweepStepCompletion,
      takeStep_of_quiet t _ hq, hop, ho, hsweeps, hs]
  · refine ⟨_, false, ((blindToDisturbance_storeCounter c c.resetValue).comp
      (blindToDisturbance_accessCounter c)).filled_keepsDisturbance, stays ho hw, fun t hq hop _ => ?_⟩
    rw [show exec .initStepCompletion t = execInitStepCompletion t from rfl, execInitStepCompletion,
      takeStep_of_quiet t _ hq, hop, ho]
  · have refreshed : BlindToDisturbance fun t => { t with
        array := { t.array with banks := closedBanks }
        refreshTimer := { t.refreshTimer with debt := t.refreshTimer.debt - 1 } } := fun _ _ _ _ => rfl
    refine ⟨_, false, refreshed.keepsDisturbance, stays ho rfl, fun t hq hop _ => ?_⟩
    rw [show exec .refreshCompletion t = execRefreshCompletion t from rfl, execRefreshCompletion,
      takeStep_of_quiet t _ hq, hop, ho]
  · have poisoned : BlindToDisturbance fun t => { t with
        array := { t.array with words := t.array.words.poisonRow r, banks := closedBanks } } := fun _ _ _ _ => rfl
    have advanced : BlindToDisturbance fun t =>
        if r < Config.lastRow then { t with power := { t.power with fillRow := some (r + 1) } }
        else { t with power := { t.power with fillRow := none, fillObligation := false, initEnd := some true } } :=
      fun s lane host k => by
        rw [apply_ite (State.disturbed · lane host k)]
        rfl
    refine ⟨_, false, (advanced.comp poisoned).keepsDisturbance, stays ho rfl, fun t hq hop _ => ?_⟩
    rw [show exec .poisonFillCompletion t = execPoisonFillCompletion t from rfl, execPoisonFillCompletion,
      takeStep_of_quiet t _ hq, hop, ho]

/-- The end of an operation without a waiting command: the re-offers of a departure, if there is one (R111). -/
theorem State.finishOp_of_not_awaiting (s : State) (departed : Bool) (h : ∀ a, s.regionController ≠ .awaiting a) :
    s.finishOp departed = if departed then s.endOp.reoffer else s.endOp := by
  unfold State.finishOp
  dsimp only
  cases departed with
  | true => exact s.endOp.reoffer.actionMoment_none fun a ha => h a (s.endOp.reoffer_regionController.symm.trans ha)
  | false =>
    simp only [Bool.false_eq_true, if_false]
    rw [s.endOp.beforeAction_none h]
    exact State.actionMoment_none _ h

/-- The end of an operation with a command waiting: the re-offers of a departure, or else what passes before the action;
then the action and the re-offer of the parked records (R80, R88, R111). -/
theorem State.finishOp_of_awaiting (s : State) (departed : Bool) (a : RegionCommand)
    (h : s.regionController = .awaiting a) :
    s.finishOp departed
      = ((if departed then s.endOp.reoffer else s.endOp.passUnparked).act a).reofferParked := by
  unfold State.finishOp
  dsimp only
  cases departed with
  | true => exact State.actionMoment_of_awaiting _ a (s.endOp.reoffer_regionController.trans h)
  | false =>
    simp only [Bool.false_eq_true, if_false]
    rw [(s.endOp.beforeAction_actionMoment a h).1]
    exact State.actionMoment_of_awaiting _ a (s.endOp.passUnparked_regionController.trans h)

/-- Settles O25: a region command's row ends in the action moment, and the completion of an operation does its effect,
which is blind to what is parked and waits, before the re-offers and the action. -/
theorem actionMomentsAndReoffers : Obligations.ActionMomentsAndReoffers := by
  unfold Obligations.ActionMomentsAndReoffers
  intro s offered passed acted hq hoffered hpassed hacted
  obtain rfl : offered = State.reoffer := funext fun x => (hoffered x).trans (by simp only [State.reoffer, Bool.or_eq_true])
  obtain rfl : passed = State.passUnparked := funext fun x => (hpassed x).trans (by
    simp only [State.passUnparked, State.ready, State.isParked, Bool.or_eq_true])
  have acts (x : State) (a : RegionCommand) : acted x a = (x.act a).reofferParked := hacted x a
  refine ⟨fun row kind c rest a hrow hk hd ha => ?_, fun row calm done x hrow hcalm hdone hx => ?_⟩
  · have command : a = regionCommandOf kind c := ha
    rw [exec_regionCommand hq hrow hk hd, ← command, acts]
    exact ⟨fun busy => congrArg Host.Outcome.next (State.takeRegionCommand_busy { s with commands := rest } a busy),
      fun idle => congrArg Host.Outcome.next (State.takeRegionCommand_idle { s with commands := rest } a idle)⟩
  · obtain rfl : calm = s.calmed := hcalm
    obtain ⟨effect, departed, keeps, hdeparted, hexec⟩ := exec_of_completes hrow
    obtain ⟨⟨⟨lane, host⟩, idle⟩, effected⟩ := keeps s
    have ended : done = (effect s.calmed).endOp := by
      have h := hexec s.calmed hq rfl rfl
      rw [hdone, State.finishOp_plain _ departed (fun _ => ⟨lane, host⟩) idle] at h
      exact Host.Outcome.next.inj h
    have left : (effect s).endOp = x := by
      rw [hx, ended, effected]
      rfl
    have chosen (y z : State) : (if departed then y else z) = if s.withdrawn = [] then z else y := by
      by_cases hw : s.withdrawn = []
      · rw [if_pos hw, if_neg fun hdep => hdeparted.1 hdep hw]
      · rw [if_neg hw, if_pos (hdeparted.2 hw)]
    have controller : (effect s).regionController = s.regionController.restored (effect s.calmed).regionController := by
      rw [effected]
      rfl
    rw [hexec s hq rfl rfl]
    refine ⟨fun a ha => ?_, fun hn => ?_⟩
    · have waits : (effect s).regionController = .awaiting a := by rw [controller, ha]; rfl
      rw [State.finishOp_of_awaiting _ departed a waits, left, chosen, acts]
    · have free (a : RegionCommand) : (effect s).regionController ≠ .awaiting a := by
        rw [controller]
        cases hr : s.regionController with
        | awaiting b => exact absurd hr (hn b)
        | idle | filling | posting => exact idle a
      rw [State.finishOp_of_not_awaiting _ departed free, left, chosen]

end Sys2Proof.Machine
end

section
/-! SUPPORT. The accumulation arithmetic (Chapter 5): the rounded quotient, the ranges of the formats, and the six operators
on a value in its format's range (R93, R96 to R102). -/

namespace Sys2Proof.Machine

/-! ### The rounded quotient (R96) -/

section
variable (r : Rounding) (n : Int) (s : Nat)

/-- The quotient's floor and rest, with 2^s written as `d`. -/
theorem floor_rest_spec : ∃ d : Int, d = 2 ^ s ∧ 0 < d ∧ n / d * d + n % d = n ∧ 0 ≤ n % d ∧ n % d < d := by
  have pos : (0 : Int) < 2 ^ s := by positivity
  exact ⟨2 ^ s, rfl, pos, Int.ediv_mul_add_emod n _, Int.emod_nonneg n pos.ne', Int.emod_lt_of_pos n pos⟩

theorem roundedQuotient_floor_spec :
    roundedQuotient .floor n s * 2 ^ s ≤ n ∧ n < (roundedQuotient .floor n s + 1) * 2 ^ s := by
  obtain ⟨d, hd, -, whole, rest, small⟩ := floor_rest_spec n s
  simp only [roundedQuotient, ← hd, add_mul]
  omega

theorem roundedQuotient_halfUp_spec :
    (2 * roundedQuotient .halfUp n s - 1) * 2 ^ s ≤ 2 * n ∧ 2 * n < (2 * roundedQuotient .halfUp n s + 1) * 2 ^ s := by
  obtain ⟨d, hd, -, whole, rest, small⟩ := floor_rest_spec n s
  simp only [roundedQuotient, ← hd]
  split
  · simp only [add_mul, sub_mul, mul_add, mul_assoc]
    omega
  · simp only [add_mul, sub_mul, mul_assoc]
    omega

theorem roundedQuotient_halfEven_spec :
    (2 * roundedQuotient .halfEven n s - 1) * 2 ^ s ≤ 2 * n ∧ 2 * n ≤ (2 * roundedQuotient .halfEven n s + 1) * 2 ^ s
      ∧ (2 * n = (2 * roundedQuotient .halfEven n s - 1) * 2 ^ s
          ∨ 2 * n = (2 * roundedQuotient .halfEven n s + 1) * 2 ^ s → roundedQuotient .halfEven n s % 2 = 0) := by
  obtain ⟨d, hd, pos, whole, rest, small⟩ := floor_rest_spec n s
  simp only [roundedQuotient, ← hd]
  split
  · simp only [add_mul, sub_mul, mul_assoc]
    omega
  split
  · simp only [add_mul, sub_mul, mul_add, mul_assoc]
    omega
  split
  · simp only [add_mul, sub_mul, mul_assoc]
    omega
  · simp only [add_mul, sub_mul, mul_add, mul_assoc]
    omega

/-- Whatever the rounding, the rounded quotient lies within 1 of the quotient. -/
theorem roundedQuotient_near :
    (roundedQuotient r n s - 1) * 2 ^ s < n ∧ n < (roundedQuotient r n s + 1) * 2 ^ s := by
  have pos : (0 : Int) < 2 ^ s := by positivity
  cases r with
  | floor =>
    have spec := roundedQuotient_floor_spec n s
    simp only [add_mul, sub_mul] at spec ⊢
    omega
  | halfUp =>
    have spec := roundedQuotient_halfUp_spec n s
    simp only [add_mul, sub_mul, mul_assoc] at spec ⊢
    omega
  | halfEven =>
    obtain ⟨below, above, -⟩ := roundedQuotient_halfEven_spec n s
    simp only [add_mul, sub_mul, mul_assoc] at below above ⊢
    omega

theorem roundedQuotient_zero_shift : roundedQuotient r n 0 = n := by
  have near := roundedQuotient_near r n 0
  simp only [pow_zero, mul_one] at near
  omega

/-- Rounding a quotient neither crosses 0 nor leads away from it. -/
theorem roundedQuotient_of_nonneg (h : 0 ≤ n) : 0 ≤ roundedQuotient r n s ∧ roundedQuotient r n s ≤ n := by
  obtain ⟨below, above⟩ := roundedQuotient_near r n s
  have one : (1 : Int) ≤ 2 ^ s := one_le_pow₀ (by decide)
  constructor
  · have : 0 < roundedQuotient r n s + 1 := (mul_pos_iff_of_pos_right (by positivity)).1 (h.trans_lt above)
    omega
  · by_contra beyond
    have : roundedQuotient r n s - 1 ≤ (roundedQuotient r n s - 1) * 2 ^ s := le_mul_of_one_le_right (by omega) one
    omega

theorem roundedQuotient_of_neg (h : n < 0) : n ≤ roundedQuotient r n s ∧ roundedQuotient r n s ≤ 0 := by
  obtain ⟨below, above⟩ := roundedQuotient_near r n s
  have one : (1 : Int) ≤ 2 ^ s := one_le_pow₀ (by decide)
  constructor
  · by_contra beyond
    have : (roundedQuotient r n s + 1) * 2 ^ s ≤ (roundedQuotient r n s + 1) * 1 :=
      mul_le_mul_of_nonpos_left one (by omega)
    omega
  · by_contra beyond
    have : 0 ≤ (roundedQuotient r n s - 1) * 2 ^ s := mul_nonneg (by omega) (by positivity)
    omega

/-- A scaled value is a signed 32-bit number, as the update's own value is (R97). -/
theorem scaledValue_range (d : Descriptor) (value : Word) :
    -2147483648 ≤ scaledValue d value ∧ scaledValue d value ≤ 2147483647 := by
  have low := value.le_toInt
  have high := value.toInt_lt
  unfold scaledValue
  rcases lt_or_ge value.toInt 0 with h | h
  · have := roundedQuotient_of_neg d.rounding value.toInt d.inputShift.toNat h
    omega
  · have := roundedQuotient_of_nonneg d.rounding value.toInt d.inputShift.toNat h
    omega

end

/-- Settles O52: floor and rest of the division, rounding by rounding. -/
theorem roundedQuotientIsNearest : Obligations.RoundedQuotientIsNearest := by
  intro n s
  refine ⟨roundedQuotient_floor_spec n s, roundedQuotient_halfUp_spec n s, roundedQuotient_halfEven_spec n s, ?_⟩
  rintro rfl r
  exact roundedQuotient_zero_shift r n

/-! ### The ranges of the formats (R93) -/

/-- Every format holds 0, and a signed one every signed 32-bit number. -/
theorem Format.minimum_nonpos (f : Format) : f.minimum ≤ 0 := by cases f <;> decide

theorem Format.maximum_nonneg (f : Format) : 0 ≤ f.maximum := by cases f <;> decide

theorem Format.minimum_of_unsigned (f : Format) (h : f.signed = false) : f.minimum = 0 := by
  simp [Format.minimum, h]

theorem Format.minimum_of_signed (f : Format) (h : f.signed = true) : f.minimum ≤ -2147483648 := by
  cases f <;> revert h <;> decide

theorem Format.holds_iff (f : Format) (x : Int) : f.holds x = true ↔ f.minimum ≤ x ∧ x ≤ f.maximum := by
  simp [Format.holds]

theorem Format.not_holds_iff (f : Format) (x : Int) : (!f.holds x) = true ↔ x < f.minimum ∨ f.maximum < x := by
  rw [Bool.not_eq_true', ← Bool.not_eq_true, f.holds_iff]
  omega

/-- A value inside the range is exact, and one that passed an end is that end, with the flag set (R98, R102). -/
theorem Format.clamp_spec (f : Format) (x : Int) :
    (f.minimum ≤ x → x ≤ f.maximum → f.clamp x = x ∧ f.holds x = true)
      ∧ (x < f.minimum → f.clamp x = f.minimum ∧ f.holds x = false)
      ∧ (f.maximum < x → f.clamp x = f.maximum ∧ f.holds x = false) := by
  have low := f.minimum_nonpos
  have high := f.maximum_nonneg
  simp only [Format.clamp, ← Bool.not_eq_true, f.holds_iff]
  refine ⟨fun h1 h2 => ?_, fun h => ?_, fun h => ?_⟩
  · rw [if_neg (by omega), if_neg (by omega)]
    omega
  · rw [if_pos h]
    omega
  · rw [if_neg (by omega), if_pos h]
    omega

theorem Format.two_pow_width (f : Format) : (2 : Int) ^ f.width = 2 * 2 ^ (f.width - 1) := by cases f <;> rfl

/-- The reduced value lies in the range, and differs by a multiple of 2^width (R99). -/
theorem Format.reduce_spec (f : Format) (x : Int) :
    f.minimum ≤ f.reduce x ∧ f.reduce x ≤ f.maximum ∧ ∃ k : Int, f.reduce x = x + k * 2 ^ f.width := by
  have modulus : ((2 ^ f.width : Nat) : Int) = 2 ^ f.width := by norm_num
  have pos : (0 : Int) < 2 ^ f.width := by positivity
  have half := f.two_pow_width
  unfold Format.reduce
  cases hs : f.signed with
  | true =>
    obtain ⟨k, hk⟩ : ((2 ^ f.width : Nat) : Int) ∣ Int.bmod x (2 ^ f.width) - x := Int.dvd_bmod_sub_self
    have low := Int.le_bmod (x := x) (m := 2 ^ f.width) (by positivity)
    have high := Int.bmod_lt (x := x) (m := 2 ^ f.width) (by positivity)
    rw [modulus] at low high hk
    simp only [Format.minimum, Format.maximum, hs, if_true]
    refine ⟨by omega, by omega, k, ?_⟩
    rw [Int.mul_comm]
    omega
  | false =>
    have whole := Int.emod_add_mul_ediv x (2 ^ f.width)
    have small := Int.emod_lt_of_pos x pos
    simp only [Format.minimum, Format.maximum, hs, Bool.false_eq_true, if_false]
    refine ⟨Int.emod_nonneg _ pos.ne', by omega, -(x / 2 ^ f.width), ?_⟩
    rw [neg_mul, Int.mul_comm]
    omega

/-- P* is the partial, or the range's least value where the partial lies below it (R100, R101). -/
theorem Format.unsignedFloor_eq (f : Format) (p : Int) (h : f.signed = true → f.minimum ≤ p) :
    f.unsignedFloor p = Max.max f.minimum p := by
  unfold Format.unsignedFloor
  cases hs : f.signed with
  | true => simp [h hs]
  | false => 
    rw [f.minimum_of_unsigned hs]
    by_cases hp : p < 0
    · simp [hp, hp.le]
    · simp [hp, not_lt.1 hp]

/-- A 32-bit counter is read from its only word (R93). -/
theorem extractLsb'_zeroExtend_word (v : Word) : (v.zeroExtend 64).extractLsb' 0 32 = v := by
  rw [BitVec.zeroExtend, BitVec.extractLsb'_setWidth_of_le (by decide), BitVec.extractLsb'_eq_self]

/-- A stored value is read back as written (R93). -/
theorem Format.decode_encode (f : Format) (x : Int) (hl : f.minimum ≤ x) (hh : x ≤ f.maximum) :
    f.decode (f.encode x) = x := by
  cases f with
  | u32 =>
    have low : 0 ≤ x := hl
    have high : x ≤ 4294967295 := hh
    calc Format.u32.decode (Format.u32.encode x)
      _ = ((BitVec.ofInt 32 x).toNat : Int) := by rw [← extractLsb'_zeroExtend_word (BitVec.ofInt 32 x)]; rfl
      _ = x := by rw [BitVec.toNat_ofInt]; omega
  | s32 =>
    calc Format.s32.decode (Format.s32.encode x)
      _ = (BitVec.ofInt 32 x).toInt := by rw [← extractLsb'_zeroExtend_word (BitVec.ofInt 32 x)]; rfl
      _ = x := BitVec.toInt_ofInt_eq_self (by decide) hl (Int.lt_add_one_of_le hh)
  | u64 =>
    have low : 0 ≤ x := hl
    have high : x ≤ 18446744073709551615 := hh
    calc Format.u64.decode (Format.u64.encode x)
      _ = ((BitVec.ofInt 64 x).toNat : Int) := rfl
      _ = x := by rw [BitVec.toNat_ofInt]; omega
  | s64 => exact BitVec.toInt_ofInt_eq_self (by decide) hl (Int.lt_add_one_of_le hh)

/-- Every reset value is 0 or, for MAX and MIN, the end of the range (R87). -/
theorem decode_resetBits (op : Operator) (f : Format) :
    f.decode (resetBits op f) = if op = .max then f.minimum else if op = .min then f.maximum else 0 := by
  have low := f.minimum_nonpos
  have high := f.maximum_nonneg
  cases op with
  | max => exact f.decode_encode _ le_rfl (low.trans high)
  | min => exact f.decode_encode _ (low.trans high) le_rfl
  | addSat | addWrap | last | decayAdd => cases f <;> rfl

/-! ### One application (R98 to R102) -/

/-- A decay alone never leaves the interval between the value and 0 (R102). -/
theorem decayed_between (r : Rounding) (x : Int) (s : Nat) :
    (0 ≤ x → 0 ≤ x - roundedQuotient r x s ∧ x - roundedQuotient r x s ≤ x)
      ∧ (x < 0 → x ≤ x - roundedQuotient r x s ∧ x - roundedQuotient r x s ≤ 0) := by
  constructor
  · intro h
    have := roundedQuotient_of_nonneg r x s h
    omega
  · intro h
    have := roundedQuotient_of_neg r x s h
    omega

/-- Settles O53: each operator by what clamping, reducing and the unsigned floor do, and the decay by its rounded
quotient. -/
theorem operatorsStayInTheFormat : Obligations.OperatorsStayInTheFormat := by
  refine ⟨fun op d x p exact lo hi a hlo hhi hx1 hx2 ha hexact => ?_, scaledValue_range⟩
  obtain rfl : lo = d.format.minimum := by rw [hlo]; cases d.format <;> rfl
  obtain rfl : hi = d.format.maximum := by rw [hhi]; cases d.format <;> rfl
  obtain ⟨decayUp, decayDown⟩ := decayed_between d.rounding x d.decayShift.toNat
  refine ⟨fun hop => ?saturating, fun hop => ?wrapping, fun hp1 hp2 => ?choosing, decayUp, decayDown,
    d.format.decode_encode x hx1 hx2, decode_resetBits op d.format⟩
  case saturating =>
    obtain ⟨inside, below, above⟩ := d.format.clamp_spec exact
    have applied : a = { value := d.format.clamp exact, sat := !d.format.holds exact, wrap := false } := by
      rcases hop with rfl | rfl
      · rw [ha, hexact]; rfl
      · rw [ha, hexact]; rfl
    refine ⟨fun h1 h2 => ?_, fun h => ?_, fun h => ?_⟩
    · obtain ⟨hc, hh⟩ := inside h1 h2
      rw [applied, hc, hh]; rfl
    · obtain ⟨hc, hh⟩ := below h
      rw [applied, hc, hh]; rfl
    · obtain ⟨hc, hh⟩ := above h
      rw [applied, hc, hh]; rfl
  case wrapping =>
    subst hop
    obtain rfl : exact = x + p := hexact
    obtain ⟨low, high, k, reduced⟩ := d.format.reduce_spec (x + p)
    have modulus : (if d.format = .u32 ∨ d.format = .s32 then 2 ^ 32 else 2 ^ 64 : Int) = 2 ^ d.format.width := by
      cases d.format <;> rfl
    rw [modulus, ha]
    exact ⟨low, high, ⟨k, reduced⟩, rfl, d.format.not_holds_iff (x + p)⟩
  case choosing =>
    have floored := d.format.unsignedFloor_eq p fun hs => (d.format.minimum_of_signed hs).trans hp1
    have flag : (!d.format.signed && decide (p < 0)) = decide (d.format.minimum = 0 ∧ p < 0) := by
      cases d.format <;> simp [Format.signed, Format.minimum, Format.width, Format.wide]
    refine ⟨?_, ?_, ?_⟩
    · rintro rfl
      rw [ha, ← floored]; rfl
    · rintro rfl
      rw [ha, ← floored]; rfl
    · rintro rfl
      rw [ha, ← floored, ← flag]; rfl

end Sys2Proof.Machine
end

section
/-! SUPPORT. One merged entry against entries of their own (R105, R107): merging two scaled updates gives the counter the
value that applying one after the other gives. -/

namespace Sys2Proof.Machine

/-! ### Two updates (R98 to R101, R105) -/

/-- Clamping on the way changes nothing where the two steps do not go opposite ways (R105). -/
theorem Format.clamp_clamp_add (f : Format) (x p v : Int) (hl : f.minimum ≤ x) (hh : x ≤ f.maximum)
    (hs : mergeAllowed .addSat p v = true) :
    f.clamp (f.clamp (x + p) + v) = f.clamp (x + (p + v))
      ∧ (!f.holds (x + p) || !f.holds (f.clamp (x + p) + v)) = !f.holds (x + (p + v)) := by
  have same : (p ≤ 0 ∨ 0 ≤ v) ∧ (0 ≤ p ∨ v ≤ 0) := by
    simp [mergeAllowed] at hs
    omega
  rw [Bool.eq_iff_iff, Bool.or_eq_true, f.not_holds_iff, f.not_holds_iff, f.not_holds_iff]
  simp only [Format.clamp]
  split
  · constructor
    · split <;> split <;> omega
    · omega
  split
  · omega
  · omega

/-- Reducing on the way changes nothing (R99). -/
theorem Format.reduce_reduce_add (f : Format) (x p v : Int) : f.reduce (f.reduce (x + p) + v) = f.reduce (x + (p + v)) := by
  rw [← add_assoc]
  unfold Format.reduce
  split
  · exact Int.bmod_add_bmod
  · exact Int.emod_add_emod _ _ _

theorem Format.unsignedFloor_monotone (f : Format) : Monotone f.unsignedFloor := by
  intro p q h
  unfold Format.unsignedFloor
  cases f.signed with
  | true => exact h
  | false =>
    simp only [Bool.not_false, Bool.true_and, decide_eq_true_eq]
    split <;> split <;> omega

/-! ### One application after another (R94, R104) -/

/-- A further application, on the result of the one before; a flag is set if any application sets it (R94, R104). -/
def Applied.andThen (op : Operator) (d : Descriptor) (a : Applied) (v : Int) : Applied :=
  { value := (applyOperator op d a.value v).value
    sat := a.sat || (applyOperator op d a.value v).sat
    wrap := a.wrap || (applyOperator op d a.value v).wrap }

/-- What R107 compares of one entry and of entries of their own: the value, SAT_SEEN but for LAST, WRAP_SEEN but for
ADD_WRAP. -/
structure Applied.Agrees (op : Operator) (one sep : Applied) : Prop where
  value : one.value = sep.value
  sat : op ≠ .last → one.sat = sep.sat
  wrap : op ≠ .addWrap → one.wrap = sep.wrap

section
variable {op : Operator} {d : Descriptor} {x : Int}

theorem Applied.Agrees.andThen {one sep : Applied} (h : Applied.Agrees op one sep) (v : Int) :
    Applied.Agrees op (one.andThen op d v) (sep.andThen op d v) where
  value := by simp only [Applied.andThen, h.value]
  sat hop := by simp only [Applied.andThen, h.value, h.sat hop]
  wrap hop := by simp only [Applied.andThen, h.value, h.wrap hop]

/-- Two updates merged agree with the one applied after the other (R105, R107). -/
theorem applyOperator_mergedPartial (hop : op ≠ .decayAdd) (hl : d.format.minimum ≤ x) (hh : x ≤ d.format.maximum)
    (p v : Int) (hm : mergeAllowed op p v = true) :
    Applied.Agrees op (applyOperator op d x (mergedPartial op p v)) ((applyOperator op d x p).andThen op d v) := by
  cases op with
  | addSat =>
    obtain ⟨value, sat⟩ := d.format.clamp_clamp_add x p v hl hh hm
    exact ⟨value.symm, fun _ => sat.symm, fun _ => rfl⟩
  | addWrap => exact ⟨(d.format.reduce_reduce_add x p v).symm, fun _ => rfl, fun h => absurd rfl h⟩
  | max =>
    refine ⟨?_, fun _ => rfl, fun _ => rfl⟩
    exact (congrArg (Max.max x) (d.format.unsignedFloor_monotone.map_max)).trans (max_assoc _ _ _).symm
  | min =>
    refine ⟨?_, fun _ => rfl, fun _ => rfl⟩
    exact (congrArg (Min.min x) (d.format.unsignedFloor_monotone.map_min)).trans (min_assoc _ _ _).symm
  | last => exact ⟨rfl, fun h => absurd rfl h, fun _ => rfl⟩
  | decayAdd => exact absurd rfl hop

/-- One entry that merges the updates agrees with entries of their own, whatever was merged before (R107). -/
theorem agrees_foldl_mergedPartial (hop : op ≠ .decayAdd) (hl : d.format.minimum ≤ x) (hh : x ≤ d.format.maximum)
    (us : List Int) (p : Int) (sep : Applied) (h : Applied.Agrees op (applyOperator op d x p) sep)
    (hm : ∀ before v after, us = before ++ v :: after →
      mergeAllowed op (before.foldl (mergedPartial op) p) v = true) :
    Applied.Agrees op (applyOperator op d x (us.foldl (mergedPartial op) p)) (us.foldl (Applied.andThen op d) sep) := by
  induction us generalizing p sep with
  | nil => exact h
  | cons v us ih =>
    have merged := applyOperator_mergedPartial hop hl hh p v (hm [] v us rfl)
    have applied := h.andThen (d := d) v
    refine ih _ _ ⟨merged.value.trans applied.value, fun hs => (merged.sat hs).trans (applied.sat hs),
      fun hw => (merged.wrap hw).trans (applied.wrap hw)⟩ fun before u after hu => ?_
    exact hm (v :: before) u after (congrArg (v :: ·) hu)

end

/-! ### What is merged in the end (R105) -/

theorem foldl_mergedPartial_addWrap (u : Int) (us : List Int) :
    us.foldl (mergedPartial .addWrap) u = (u :: us).sum := by
  rw [List.sum_eq_foldl, List.foldl_cons, zero_add]
  rfl

theorem foldl_mergedPartial_last (u un : Int) (us : List Int) (h : (u :: us).getLast? = some un) :
    us.foldl (mergedPartial .last) u = un := by
  induction us generalizing u with
  | nil => exact Option.some.inj h
  | cons v us ih => exact ih v (by rwa [List.getLast?_cons_cons] at h)

/-- Settles O54: value and flags agree by induction over the updates, and the whole sum and the last update are what
ADD_WRAP and LAST have merged. -/
theorem mergedEqualsSeparateApplications : Obligations.MergedEqualsSeparateApplications := by
  rintro op d x u1 un us one sep hop hl hh - hm rfl hsep hlast
  have start : Applied.Agrees op (applyOperator op d x u1) (applyOperator op d x u1) := ⟨rfl, fun _ => rfl, fun _ => rfl⟩
  have agrees := agrees_foldl_mergedPartial hop hl hh us u1 _ start hm
  obtain rfl : sep = us.foldl (Applied.andThen op d) (applyOperator op d x u1) := hsep
  refine ⟨agrees.value, ?_, ?_, ?_, ?_⟩
  · rintro rfl
    exact ⟨agrees.sat (by decide), agrees.wrap (by decide)⟩
  · rintro (rfl | rfl)
    · exact ⟨rfl, rfl, (agrees.sat (by decide)).symm, (agrees.wrap (by decide)).symm⟩
    · exact ⟨rfl, rfl, (agrees.sat (by decide)).symm, (agrees.wrap (by decide)).symm⟩
  · rintro rfl
    refine ⟨agrees.sat (by decide), ?_⟩
    rw [← foldl_mergedPartial_addWrap]
    exact d.format.not_holds_iff _
  · rintro rfl
    refine ⟨agrees.wrap (by decide), ?_⟩
    rw [foldl_mergedPartial_last u1 un us hlast]
    cases hf : d.format <;> simp [applyOperator, hf, Format.signed]

end Sys2Proof.Machine
end

section
/-! SUPPORT. The entries present and their ranges (R105, R106, R108, R110, R114): what an entry may become, and which steps
leave them as they are. -/

namespace Sys2Proof.Machine

/-! ### One entry -/

theorem Entry.inRange_sealed {e : Entry} (h : e.inRange) : Entry.inRange { e with isSealed := true } := by
  obtain ⟨some, most, -, low, high, age, source⟩ := h
  exact ⟨some, most, fun _ => rfl, low, high, age, source⟩

/-- A merge into an OPEN entry stays in range: one update more, sealed at the 255th (R105, R106, R110). -/
theorem Entry.inRange_merge {e : Entry} (h : e.inRange) (ho : e.isSealed = false) {v : Int}
    (hv : -2147483648 ≤ v ∧ v ≤ 2147483647) (src : Source) : (e.merge v src).inRange := by
  obtain ⟨some, most, full, low, high, age, source⟩ := h
  have room : e.merges ≠ Config.mergeLimit := fun hm => Bool.false_ne_true (ho.symm.trans (full hm))
  have source' : (e.fromLane || decide (src = .lane) || (e.fromHost || decide (src = .host))) = true := by
    cases src <;> simp
  have bounds : -((e.merges + 1 : Nat) * 2 ^ 31 : Int) ≤ mergedPartial e.operator e.part v
      ∧ mergedPartial e.operator e.part v ≤ (e.merges + 1 : Nat) * 2 ^ 31 := by
    cases e.operator <;> simp only [mergedPartial] <;> omega
  obtain ⟨low', high'⟩ := bounds
  exact ⟨Nat.le_add_left _ _, by simp only [Entry.merge]; omega, fun hm => decide_eq_true hm, low', high', age, source'⟩

/-- An entry that an update opens has one merge (R108, R110). -/
theorem State.newEntry_inRange (s : State) (src : Source) (r : HostRecord) {v : Int}
    (hv : -2147483648 ≤ v ∧ v ≤ 2147483647) : (s.newEntry src r v).inRange := by
  have source : (decide (src = .lane) || decide (src = .host)) = true := by cases src <;> rfl
  refine ⟨le_rfl, (by decide : 1 ≤ Config.mergeLimit),
    fun hm => absurd hm (by decide : ¬ 1 = Config.mergeLimit), ?_, ?_, Nat.zero_le _, source⟩
  · simp only [State.newEntry]
    omega
  · simp only [State.newEntry]
    omega

/-! ### Steps that leave the entries of the list and the array as they are -/

/-- The Merge Buffer's list and the array, which holds the entries withdrawn (R109, R116). -/
def State.storage (s : State) : List Entry × CounterArray := (s.entries, s.array)

theorem State.present_of_storage {s t : State} (h : t.storage = s.storage) : t.present = s.present :=
  congrArg (fun p : List Entry × CounterArray => p.1 ++ p.2.op.elim [] ArrayOp.withdrawn) h

section
variable (s : State)

@[simp] theorem State.log_storage (e : Event) : (s.log e).storage = s.storage := by
  rcases s.log_cases e with ⟨-, he⟩ | ⟨-, he⟩ <;> rw [he] <;> rfl

@[simp] theorem State.count_storage (c : StatCounter) : (s.count c).storage = s.storage := rfl

@[simp] theorem State.raise_storage (c : AlertCause) : (s.raise c).storage = s.storage := rfl

@[simp] theorem State.hostError_storage (opcode reason : Byte) : (s.hostError opcode reason).storage = s.storage := by
  simp [State.hostError]

@[simp] theorem State.credit_storage : s.credit.storage = s.storage := by
  unfold State.credit
  split <;> rfl

@[simp] theorem State.laneHandled_storage : s.laneHandled.storage = s.storage := by
  unfold State.laneHandled
  dsimp only
  split
  · exact State.credit_storage _
  · rfl

@[simp] theorem State.padRecord_storage : s.padRecord.storage = s.storage := by
  rcases s.padRecord_cases with ⟨q, r, -, -, he⟩ | he <;> simp [he]

@[simp] theorem State.reservedRecord_storage : s.reservedRecord.storage = s.storage := by
  rcases s.reservedRecord_cases with ⟨q, r, -, -, he⟩ | he <;> simp [he]

@[simp] theorem State.handleOwn_storage : s.handleOwn.storage = s.storage := by
  have records (n : Nat) (t : State) : (t.ownRecords n).storage = t.storage := by
    induction n generalizing t with
    | zero => rfl
    | succ n ih =>
      unfold State.ownRecords
      split
      · simp [ih]
      · rfl
  exact records _ s

@[simp] theorem State.depart_storage (src : Source) : (s.depart src).storage = s.storage := by
  cases src
  · exact s.laneHandled_storage
  · rfl

@[simp] theorem State.park_storage (src : Source) : (s.park src).storage = s.storage := by
  cases src <;> rfl

@[simp] theorem State.reject_storage (src : Source) (r : HostRecord) (reason : Byte) :
    (s.reject src r reason).storage = s.storage := by
  unfold State.reject
  dsimp only
  split
  · exact State.depart_storage _ src
  · exact (State.log_storage _ _).trans (State.depart_storage _ src)

@[simp] theorem State.endOfInitialisation_storage : s.endOfInitialisation.storage = s.storage := by
  unfold State.endOfInitialisation
  split
  · rfl
  · exact State.log_storage _ _

@[simp] theorem State.stallReport_storage : s.stallReport.storage = s.storage := by
  unfold State.stallReport
  split
  · rfl
  · exact State.log_storage _ _

@[simp] theorem State.refreshDue_storage : s.refreshDue.storage = s.storage := by
  unfold State.refreshDue
  dsimp only
  split
  · split
    · rfl
    · exact State.log_storage _ _
  · rfl

@[simp] theorem State.seekRepeat_storage : s.seekRepeat.storage = s.storage := by
  unfold State.seekRepeat
  split <;> rfl

@[simp] theorem State.trainTimeout_storage : s.trainTimeout.storage = s.storage := by
  unfold State.trainTimeout
  split <;> rfl

@[simp] theorem State.terminalRecord_storage : s.terminalRecord.storage = s.storage := by
  cases h : s.terminalDue
  · rw [s.terminalRecord_of_not_due h]
  · obtain ⟨w, rest, -, -, he⟩ := s.terminalRecord_of_due h
    rw [he]
    rfl

/-! ### The frames of the lane (R51, R60 to R70, R72) -/

theorem State.trainingFailed_storage : s.trainingFailed.storage = s.storage := State.log_storage _ _

theorem State.trainFrame_storage (f : Frame) : (s.trainFrame f).storage = s.storage := by
  have judged (t : State) : t.trimJudged.storage = t.storage := by
    unfold State.trimJudged
    dsimp only
    split
    · split
      · split
        · rfl
        · exact State.trainingFailed_storage _
      · rfl
    · split
      · exact State.trainingFailed_storage _
      · rfl
  unfold State.trainFrame
  dsimp only
  split
  · rfl
  · split
    · rfl
    · exact judged _

@[simp] theorem State.frameDropped_storage : s.frameDropped.storage = s.storage := by
  have kept (t : State) (l : Lane) : State.storage { t with lane := l } = t.storage := rfl
  have reported (n : BitVec 4) : (s.reported n).storage = s.storage := rfl
  by_cases h : s.laneControl.errLimit ≤ satInc s.lane.errors
  · rw [s.frameDropped_retrain _ rfl h]
    exact (kept _ _).trans (by simp [reported])
  · rw [s.frameDropped_credit _ rfl (BitVec.not_le.1 h), State.credit_storage, reported]

theorem State.lockedFrame_storage (f : Frame) : (s.lockedFrame f).storage = s.storage := by
  have dropped (c : StatCounter) (e : Event) : ((s.count c).log e).frameDropped.storage = s.storage := by simp
  unfold State.lockedFrame
  split
  · exact State.log_storage _ _
  split
  · exact dropped _ _
  split
  · exact dropped _ _
  split
  · rfl
  split
  · exact dropped _ _
  split
  · rw [s.acceptFrame_eq _ f rfl]
    split
    · rfl
    · exact State.log_storage _ _
  · exact dropped _ _

theorem State.lclkEdge_storage (x : LaneSample) : (s.lclkEdge x).storage = s.storage := by
  have arrives (t : State) (f : Frame) : (t.frameArrives f).storage = t.storage := by
    unfold State.frameArrives
    split
    · rfl
    · rfl
    · unfold State.seekFrame
      split <;> rfl
    · exact t.trainFrame_storage f
    · exact t.lockedFrame_storage f
  have sampled (t : State) : (t.samplePins x).storage = t.storage := by
    unfold State.samplePins
    split
    case h_3 => exact arrives _ _
    all_goals rfl
  unfold State.lclkEdge
  dsimp only
  split
  · rfl
  · exact sampled _

theorem State.laneReset_storage : s.laneReset.storage = s.storage := by
  rw [State.laneReset_eq _ _ rfl]
  split
  · exact State.log_storage _ _
  · exact State.log_storage _ _

/-! ### The Host Port, time and the units -/

theorem State.respond_storage (op : Opcode) (d : Decision) : (s.respond op d).storage = s.storage := by
  unfold State.respond
  dsimp only
  split
  · exact State.hostError_storage _ _ _
  · rfl

theorem State.enterSink_storage (opcode reason : Byte) : (s.enterSink opcode reason).storage = s.storage :=
  State.hostError_storage _ _ _

theorem State.writeRegister_present (v : Word) (r : Register) : (s.writeRegister v r).present = s.present := by
  cases r with
  | laneControl =>
    simp only [State.writeRegister, State.writeLaneControl]
    split
    · exact State.present_of_storage (State.laneReset_storage _)
    · split <;> rfl
  | _ => rfl

theorem State.tick_storage : s.tick.storage = s.storage := by
  have counted (u : State) : u.lingerCount.refreshCount.laneCount.initCount.storage = u.storage := by
    rw [State.initCount_eq, State.laneCount_eq]
    rfl
  unfold State.tick
  split
  · rfl
  · rw [counted, State.stallTick_eq _ _ rfl]
    rfl

theorem State.readCounter_present (c : CounterOp) (k : ReadKind) : (s.readCounter c k).present = s.present := by
  have kept : (s.readCounter c k).entries = s.entries := by rw [State.readCounter_frame]
  rw [State.present, State.withdrawn, State.readCounter_op, kept]
  rfl

theorem State.storeAccessed_present (c : CounterOp) (bits : BitVec 64) :
    ((s.accessCounter c).storeCounter c bits).present = s.present := by
  rw [State.storeAccessed_frame]
  rfl

theorem State.filled_present : s.filled.present = s.present := by
  unfold State.filled
  split
  · split <;> rfl
  all_goals rfl

end

end Sys2Proof.Machine
end

section
/-! SUPPORT. Every entry present in its ranges, row by row (R106, R108, R114): what a moment's end, the acceptance point, the
region commands, the grants and the completions make of the entries present, and that every step keeps them in range. -/

namespace Sys2Proof.Machine

section
variable {s t : State}

/-! ### Changes of the entries present that keep them in range -/

/-- Entries may leave, or be withdrawn. -/
theorem State.entriesInRange.of_subset (h : s.entriesInRange) (ht : t.present ⊆ s.present) : t.entriesInRange :=
  fun e he => h e (ht he)

theorem State.entriesInRange.of_present (h : s.entriesInRange) (ht : t.present = s.present) : t.entriesInRange :=
  fun e he => h e (ht ▸ he)

theorem State.entriesInRange.withEntries (h : s.entriesInRange) {l : List Entry} (hl : ∀ e ∈ l, e.inRange) :
    State.entriesInRange { s with entries := l } := fun e he => by
  rcases List.mem_append.1 he with he | he
  · exact hl e he
  · exact h e (List.mem_append_right _ he)

theorem State.entriesInRange.of_storage (h : s.entriesInRange) (ht : t.storage = s.storage) : t.entriesInRange :=
  h.of_present (State.present_of_storage ht)

/-- A change of each entry of the list that keeps it in range. -/
theorem State.entriesInRange.mapEntries (h : s.entriesInRange) (f : Entry → Entry)
    (hf : ∀ e ∈ s.entries, e.inRange → (f e).inRange) : State.entriesInRange { s with entries := s.entries.map f } :=
  h.withEntries fun e he => by
    obtain ⟨e, hm, rfl⟩ := List.mem_map.1 he
    exact hf e hm (h e (List.mem_append_left _ hm))

theorem State.entriesInRange.sealWhere (h : s.entriesInRange) (p : Entry → Bool) : (s.sealWhere p).entriesInRange :=
  h.mapEntries _ fun e _ he => by
    split
    · exact Entry.inRange_sealed he
    · exact he

theorem State.mapPresent_present (s : State) (f : Entry → Entry) : (s.mapPresent f).present = s.present.map f := by
  have withdrawn : (s.mapPresent f).withdrawn = s.withdrawn.map f := by
    rw [State.withdrawn, State.withdrawn, State.mapPresent_array]
    cases s.array.op with
    | none => rfl
    | some op => cases op <;> rfl
  rw [State.present, State.present, withdrawn, State.mapPresent_entries, List.map_append]

/-- Joining a wait set changes no field that has a range (R121). -/
theorem State.entriesInRange.joinWaits (h : s.entriesInRange) (p : Entry → Bool) (f : Waits → Waits) :
    (s.mapPresent fun e => if p e then { e with waits := f e.waits } else e).entriesInRange := by
  intro e he
  rw [State.mapPresent_present] at he
  obtain ⟨e, hm, rfl⟩ := List.mem_map.1 he
  split
  · exact h e hm
  · exact h e hm

/-! ### The steps that fall at the moment of an earlier event -/

theorem State.entriesInRange.markRecord (h : s.entriesInRange) : s.markRecord.entriesInRange := by
  rcases s.markRecord_cases with ⟨_, _, slot, -, -, -, -, he⟩ | ⟨-, he⟩ <;> rw [he]
  · have joined := (h.sealWhere Entry.fromLane).joinWaits Entry.fromLane fun w => w.addMark slot
    exact joined.of_storage (State.laneHandled_storage _)
  · exact h

theorem State.entriesInRange.takeHeads (h : s.entriesInRange) : s.takeHeads.entriesInRange := by
  have heads (n : Nat) : ∀ t : State, t.entriesInRange → (t.headRecords n).entriesInRange := by
    induction n with
    | zero => exact fun _ ht => ht
    | succ n ih =>
      intro t ht
      unfold State.headRecords
      split
      · exact ih _ (State.entriesInRange.markRecord (ht.of_storage (by simp)))
      · exact ht
  exact heads _ s h

/-- An entry ages to 15 and stays there (R114). -/
theorem State.entriesInRange.lingerTick (h : s.entriesInRange) : s.lingerTick.entriesInRange := by
  unfold State.lingerTick
  split
  · refine h.mapEntries _ fun e _ he => ?_
    obtain ⟨some, most, full, low, high, -, source⟩ := he
    exact ⟨some, most, full, low, high, Nat.min_le_right _ _, source⟩
  · exact h

theorem State.entriesInRange.sweepStart (h : s.entriesInRange) : s.sweepStart.entriesInRange := by
  unfold State.sweepStart
  split
  · exact h
  · rename_i w _ _
    split
    · dsimp only
      split
      · refine h.mapEntries (fun e => if e.region = w.region then { e with isSealed := true, post := false } else e)
          fun e _ he => ?_
        split
        · exact Entry.inRange_sealed he
        · exact he
      · exact h
    · exact h

theorem State.entriesInRange.settle (h : s.entriesInRange) : s.settle.entriesInRange := by
  have before : s.takeHeads.endOfInitialisation.stallReport.entriesInRange := h.takeHeads.of_storage (by simp)
  have aged : s.takeHeads.endOfInitialisation.stallReport.lingerTick.refreshDue.seekRepeat.trainTimeout.entriesInRange :=
    before.lingerTick.of_storage (by simp)
  exact aged.sweepStart.of_storage (State.terminalRecord_storage _)

theorem State.entriesInRange.lclkEdges (h : s.entriesInRange) (samples : List LaneSample) :
    (s.lclkEdges samples).entriesInRange := by
  unfold State.lclkEdges
  induction samples generalizing s with
  | nil => exact h
  | cons x samples ih => exact ih (h.settle.of_storage (State.lclkEdge_storage _ x))

/-! ### The acceptance point (R88 to R90, R110 to R112) -/

theorem State.entriesInRange.openEntry (h : s.entriesInRange) (src : Source) (r : HostRecord) {v : Int}
    (hv : -2147483648 ≤ v ∧ v ≤ 2147483647) : (s.openEntry src r v).entriesInRange := by
  unfold State.openEntry
  split
  · refine State.entriesInRange.of_storage (h.withEntries fun e he => ?_) (State.depart_storage _ src)
    rcases List.mem_append.1 he with he | he
    · exact h e (List.mem_append_left _ he)
    · obtain rfl := List.mem_singleton.1 he
      exact s.newEntry_inRange src r hv
  · exact h.of_storage (s.park_storage src)

theorem State.entriesInRange.place (h : s.entriesInRange) (src : Source) (r : HostRecord) {v : Int}
    (hv : -2147483648 ≤ v ∧ v ≤ 2147483647) : (s.place src r v).entriesInRange := by
  rcases s.place_cases src r v with ⟨_, -, -, he⟩ | ⟨-, he⟩ | ⟨_, -, -, he⟩ <;> rw [he]
  · refine State.entriesInRange.of_storage (h.mapEntries _ fun e _ he => ?_) (State.depart_storage _ src)
    split
    · rename_i open_
      simp only [Entry.isOpenOf, Bool.and_eq_true, Bool.not_eq_true'] at open_
      exact Entry.inRange_merge he open_.2 hv src
    · exact he
  · exact h.openEntry src r hv
  · exact (h.sealWhere _).openEntry src r hv

theorem State.entriesInRange.offer (h : s.entriesInRange) (src : Source) : (s.offer src).1.entriesInRange := by
  rcases s.offer_cases src with ⟨-, he⟩ | ⟨r, reason, -, -, he⟩ | ⟨r, -, -, he⟩ <;> rw [he]
  · exact h
  · exact h.of_storage (s.reject_storage src r reason)
  · exact h.place src r (scaledValue_range _ _)

theorem State.entriesInRange.round (h : s.entriesInRange) (laneReady hostReady : Bool) :
    (s.round laneReady hostReady).state.entriesInRange := by
  have turned (src : Source) : State.entriesInRange { s with turn := src } := h
  unfold State.round
  split
  · split
    · exact ((turned _).offer _).offer _
    · exact ((turned _).offer _).offer _
  · split
    · exact (turned _).offer _
    · split
      · exact (turned _).offer _
      · exact h

theorem State.entriesInRange.offers (h : s.entriesInRange) (laneReady hostReady : Bool) :
    (s.offers laneReady hostReady).entriesInRange := by
  have rounds (n : Nat) : ∀ (t : State) (l k : Bool), t.entriesInRange → (t.rounds l k n).entriesInRange := by
    induction n with
    | zero => exact fun _ _ _ ht => ht
    | succ n ih =>
      intro t l k ht
      have after : State.entriesInRange (if (t.round l k).laneRejected then (t.round l k).state.handleOwn
          else (t.round l k).state) := by
        split
        · exact (ht.round l k).of_storage (State.handleOwn_storage _)
        · exact ht.round l k
      unfold State.rounds
      dsimp only
      split
      · exact ih _ _ _ after
      · exact after
  exact rounds _ _ _ _ h

/-! ### The Region Controller (R80 to R86) and the end of an operation -/

/-- Of the four region commands RETIRE alone touches the entries, and removes some (R86). -/
theorem State.entriesInRange.act (h : s.entriesInRange) (a : RegionCommand) : (s.act a).entriesInRange := by
  cases a with
  | define t r raw =>
    simp only [State.act, State.actDefine]
    split <;> exact h
  | init t r =>
    simp only [State.act, State.actInit]
    split <;> exact h
  | adopt t r =>
    simp only [State.act, State.actAdopt]
    split <;> exact h
  | retire t r =>
    simp only [State.act, State.actRetire]
    split
    · exact h
    split
    · exact h
    · exact h.withEntries fun e he => h e (List.mem_append_left _ (List.mem_of_mem_filter he))

theorem State.entriesInRange.passUnparked (h : s.entriesInRange) : s.passUnparked.entriesInRange := by
  unfold State.passUnparked
  split
  · exact h.offers _ _
  · exact h

theorem State.entriesInRange.beforeAction (h : s.entriesInRange) : s.beforeAction.entriesInRange := by
  unfold State.beforeAction
  split
  · exact h.passUnparked
  all_goals exact h

theorem State.entriesInRange.actionMoment (h : s.entriesInRange) : s.actionMoment.entriesInRange := by
  unfold State.actionMoment
  split
  · exact (h.act _).offers _ _
  all_goals exact h

theorem State.entriesInRange.takeRegionCommand (h : s.entriesInRange) (a : RegionCommand) :
    (s.takeRegionCommand a).entriesInRange := by
  have held : State.entriesInRange { s with regionController := .awaiting a } := h
  unfold State.takeRegionCommand
  dsimp only
  split
  · exact held
  · exact held.beforeAction.actionMoment

/-- The withdrawn entries depart with the operation (R116). -/
theorem State.entriesInRange.finishOp (h : s.entriesInRange) (departed : Bool) : (s.finishOp departed).entriesInRange := by
  have ended : s.endOp.entriesInRange := h.of_subset (by simp [State.present, State.withdrawn])
  unfold State.finishOp
  dsimp only
  split
  · refine State.entriesInRange.actionMoment ?_
    unfold State.reoffer
    split
    · exact ended.offers _ _
    · exact ended
  · exact ended.beforeAction.actionMoment

/-! ### Rows -/

/-- If the command ends in a next state, every entry present there is in range. -/
def OutInRange (o : Out) : Prop := ∀ t, o = .next t → t.entriesInRange

theorem OutInRange.next (h : t.entriesInRange) : OutInRange (.next t) := by
  rintro _ ⟨⟩
  exact h

theorem takeStep_inRange {f : State → Out} (h : s.entriesInRange)
    (hf : ∀ t : State, t.entriesInRange → OutInRange (f t)) : OutInRange (takeStep s f) := by
  unfold takeStep
  split
  · exact .next h
  · exact hf _ h.settle

theorem takeOutstanding_inRange {f : State → State} (h : s.entriesInRange) (hf : (f s).entriesInRange) :
    OutInRange (takeOutstanding s f) := by
  unfold takeOutstanding
  split
  · exact .next h
  · exact .next hf

/-! ### The Host Port -/

theorem request_inRange (h : s.entriesInRange) (op : Opcode) (body : List Byte) (crc : Byte)
    (own : State → Decision) : OutInRange (request op body crc own s) :=
  takeStep_inRange h fun t ht => by
    split
    · exact .next (ht.of_storage (t.respond_storage _ _))
    · exact .next ht

/-- No command that puts a request on SDI touches the entries before its clean end. -/
theorem exec_inRange_of_requestOf {c : Instr} {op : Opcode} {body : List Byte} {crc : Byte} (h : s.entriesInRange)
    (hc : requestOf c = some (op, body, crc)) : OutInRange (exec c s) := by
  obtain ⟨own, hx⟩ := exec_of_requestOf c op body crc hc
  rw [hx]
  exact request_inRange h _ _ _ _

theorem execPostUpdates_inRange (h : s.entriesInRange) (records : List UpdateRecord) (crc : Byte) :
    OutInRange (execPostUpdates records crc s) := by
  unfold execPostUpdates
  split
  · exact request_inRange h _ _ _ _
  · refine takeStep_inRange h fun t ht => ?_
    split
    · exact .next (ht.of_storage (t.enterSink_storage _ _))
    · exact .next ht

/-- A soft reset empties the Merge Buffer and ends the operation in progress (R170). -/
theorem State.softReset_present (s : State) : s.softReset.present = [] :=
  State.present_of_storage (State.log_storage s.softCleared _)

theorem State.entriesInRange.commit (h : s.entriesInRange) (c : Commit) : (s.commit c).entriesInRange := by
  cases c with
  | writeRegister r v => exact h.of_present (s.writeRegister_present v r)
  | takeReadout n =>
    simp only [State.commit, State.resumeSweep]
    split
    · exact h
    · split <;> exact h
  | wake =>
    simp only [State.commit, State.wakeUp]
    split <;> exact h
  | softReset => exact h.of_subset (by simp [State.commit, State.softReset_present])
  | nothing | post | submit | takeCompletion | takeEvent | arm => exact h

theorem execCleanEnd_inRange (h : s.entriesInRange) : OutInRange (execCleanEnd s) :=
  takeStep_inRange h fun t ht => by
    split
    · exact .next (ht.commit _)
    all_goals exact .next ht

theorem execEarlyEnd_inRange (h : s.entriesInRange) (op : Opcode) : OutInRange (execEarlyEnd op s) :=
  takeStep_inRange h fun t ht => by
    have reported (o : Byte) : State.entriesInRange ((t.hostError o 1#8).endTransaction true false) :=
      ht.of_storage (t.hostError_storage o 1#8)
    split
    · exact .next (reported _)
    · exact .next (reported _)
    · split
      · exact .next ht
      · exact .next (reported _)
    all_goals exact .next ht

theorem execSink_inRange (h : s.entriesInRange) (cause : SinkCause) : OutInRange (execSink cause s) :=
  takeStep_inRange h fun t ht => by
    split
    · split
      · split
        · exact .next ht
        · exact .next (ht.of_storage (t.enterSink_storage _ _))
      · split
        · exact .next ht
        · exact .next (ht.of_storage (t.enterSink_storage _ _))
    · exact .next ht

theorem execSselNFall_inRange (h : s.entriesInRange) (sckHigh : Bool) : OutInRange (execSselNFall sckHigh s) :=
  takeStep_inRange h fun t ht => by
    split
    · exact .next ht
    · exact .next ht

theorem execSinkEnd_inRange (h : s.entriesInRange) : OutInRange (execSinkEnd s) :=
  takeStep_inRange h fun t ht => by
    split
    · exact .next ht
    · exact .next ht

theorem execIgnoredLowPeriod_inRange (h : s.entriesInRange) : OutInRange (execIgnoredLowPeriod s) :=
  takeStep_inRange h fun t ht => by
    split
    · exact .next ht
    · exact .next ht

/-! ### Dispatch (R35) -/

theorem dispatch_inRange (h : s.entriesInRange) (kind : CommandKind) {take : QueuedCommand → State → State}
    (ht : ∀ (c : QueuedCommand) (t : State), t.entriesInRange → (take c t).entriesInRange) :
    OutInRange (dispatch kind take s) :=
  takeStep_inRange h fun t hs => by
    split
    · exact .next hs
    · exact .next (ht _ _ hs)

theorem State.entriesInRange.startFence (h : s.entriesInRange) (ticket : Ticket) (laneFlag : Bool) :
    (s.startFence ticket laneFlag).entriesInRange :=
  (h.sealWhere fun e => laneFlag || e.fromHost).joinWaits (fun e => laneFlag || e.fromHost)
    fun w => { w with fence := true }

theorem State.entriesInRange.withBinUnit (h : s.entriesInRange) (u : BinUnit) :
    State.entriesInRange { s with binUnit := u } := h

theorem State.entriesInRange.cancelSweep (h : s.entriesInRange) (ticket : Ticket) (tag : Tag) :
    (s.cancelSweep ticket tag).entriesInRange := h

theorem execSweep_inRange (h : s.entriesInRange) : OutInRange (execSweep s) :=
  dispatch_inRange h _ fun c t ht => by
    dsimp only
    split
    · exact ht
    · exact ht

/-- QUIESCING seals every OPEN entry (R166). -/
theorem execRetain_inRange (h : s.entriesInRange) : OutInRange (execRetain s) :=
  dispatch_inRange h _ fun c t ht => by
    have quieted : (t.sealWhere fun _ => true).entriesInRange := ht.sealWhere _
    split
    · exact ht
    · exact quieted

/-! ### Grants (R144, R145) -/

theorem grantTo_inRange (h : s.entriesInRange) (m : Member) {f : State → State → Out}
    (hf : ∀ t : State, t.entriesInRange → OutInRange (f t { t with array := { t.array with pointer := m.following } })) :
    OutInRange (grantTo m f s) :=
  takeStep_inRange h fun t ht => by
    split
    · exact hf t ht
    · exact .next ht

/-- The entries that an operation takes leave the list, and are withdrawn (R116). -/
theorem State.entriesInRange.startOp (h : s.entriesInRange) {op : ArrayOp} (hl : ∀ e ∈ t.entries, e ∈ s.entries)
    (ho : ∀ e ∈ op.withdrawn, e ∈ s.entries) : (t.startOp op).entriesInRange :=
  h.of_subset fun e he => List.mem_append_left _ ((List.mem_append.1 he).elim (hl e) (ho e))

theorem beginOn_inRange (h : s.entriesInRange) (c : CounterOp) {op : ArrayOp} (hl : ∀ e ∈ t.entries, e ∈ s.entries)
    (ho : ∀ e ∈ op.withdrawn, e ∈ s.entries) : OutInRange (beginOn c op t) := by
  unfold beginOn
  split
  · exact .next (h.startOp hl ho)
  · exact fun _ hn => nomatch hn

theorem beginOn_withdraw_inRange (h : s.entriesInRange) (c : CounterOp) (p : Entry → Bool) {op : ArrayOp}
    (ht : t.entries = s.entries) (ho : op.withdrawn = s.entries.filter p) : OutInRange (beginOn c op (t.withdraw p)) :=
  beginOn_inRange h c (fun _ he => ht ▸ List.mem_of_mem_filter he) fun _ he => List.mem_of_mem_filter (ho ▸ he)

theorem execCommit_inRange (h : s.entriesInRange) : OutInRange (execCommit s) :=
  grantTo_inRange h _ fun t ht => by
    dsimp only
    split
    · exact .next ht
    · rename_i e rest hp
      obtain ⟨taken, left⟩ := pickEligible_mem _ _ _ hp
      refine beginOn_inRange ht _ left fun f hf => ?_
      obtain rfl := List.mem_singleton.1 hf
      exact taken

theorem execBinRead_inRange (h : s.entriesInRange) : OutInRange (execBinRead s) :=
  grantTo_inRange h _ fun t ht => by
    dsimp only
    split
    · split
      · exact .next ht
      · exact beginOn_withdraw_inRange ht _ _ rfl rfl
    · exact .next ht

theorem execBinWrite_inRange (h : s.entriesInRange) : OutInRange (execBinWrite s) :=
  grantTo_inRange h _ fun t ht => by
    dsimp only
    split
    · split
      · exact .next ht
      · exact beginOn_withdraw_inRange ht _ _ rfl rfl
    · exact .next ht

theorem execSweepStep_inRange (h : s.entriesInRange) : OutInRange (execSweepStep s) :=
  grantTo_inRange h _ fun t ht => by
    dsimp only
    split
    · exact .next ht
    · exact beginOn_withdraw_inRange ht _ _ rfl rfl

theorem execInitStep_inRange (h : s.entriesInRange) : OutInRange (execInitStep s) :=
  grantTo_inRange h _ fun t ht => by
    dsimp only
    split
    · refine beginOn_inRange ht _ (fun _ he => he) fun _ he => ?_
      cases he
    · exact .next ht

theorem execRefresh_inRange (h : s.entriesInRange) : OutInRange (execRefresh s) :=
  takeStep_inRange h fun t ht => by
    split
    · refine .next (ht.startOp (fun _ he => he) fun _ he => ?_)
      cases he
    · exact .next ht

theorem execPoisonFill_inRange (h : s.entriesInRange) : OutInRange (execPoisonFill s) :=
  takeStep_inRange h fun t ht => by
    split
    · split
      · refine .next (ht.startOp (fun _ he => he) fun _ he => ?_)
        cases he
      · exact .next ht
    · exact .next ht

/-! ### Completions of operations -/

theorem execCommitCompletion_inRange (h : s.entriesInRange) : OutInRange (execCommitCompletion s) :=
  takeStep_inRange h fun t ht => by
    split
    · exact .next ((ht.of_present (t.readCounter_present _ _)).finishOp _)
    · exact .next ht

theorem execBinReadCompletion_inRange (h : s.entriesInRange) : OutInRange (execBinReadCompletion s) :=
  takeStep_inRange h fun t ht => by
    split
    · rename_i c _
      have read (u : BinUnit) : State.entriesInRange { t.readCounter c .binRead with binUnit := u } :=
        ht.of_present (t.readCounter_present c .binRead)
      exact .next ((read _).finishOp _)
    · exact .next ht

theorem execBinWriteCompletion_inRange (h : s.entriesInRange) : OutInRange (execBinWriteCompletion s) :=
  takeStep_inRange h fun t ht => by
    split
    · rename_i c v _
      have stored (u : BinUnit) : State.entriesInRange { (t.accessCounter c).storeCounter c v with binUnit := u } :=
        ht.of_present (t.storeAccessed_present c v)
      exact .next ((stored _).finishOp _)
    · exact .next ht

theorem execSweepStepCompletion_inRange (h : s.entriesInRange) : OutInRange (execSweepStepCompletion s) :=
  takeStep_inRange h fun t ht => by
    split
    · rename_i c w rest _ _
      have stepped (k : ReadKind) (r : ReadoutRecord) (l : List Sweep) :
          State.entriesInRange { (t.readCounter c k).placeRecord r with sweeps := l } :=
        ht.of_present (t.readCounter_present c k)
      exact .next ((stepped _ _ _).finishOp _)
    · exact .next ht

theorem execInitStepCompletion_inRange (h : s.entriesInRange) : OutInRange (execInitStepCompletion s) :=
  takeStep_inRange h fun t ht => by
    split
    · have stored (c : CounterOp) (bits : BitVec 64) := ht.of_present (t.storeAccessed_present c bits)
      exact .next (((stored _ _).of_present (State.filled_present _)).finishOp _)
    · exact .next ht

theorem execRefreshCompletion_inRange (h : s.entriesInRange) : OutInRange (execRefreshCompletion s) :=
  takeStep_inRange h fun t ht => by
    split
    · refine .next (State.entriesInRange.finishOp ?_ _)
      exact ht
    · exact .next ht

theorem execPoisonFillCompletion_inRange (h : s.entriesInRange) : OutInRange (execPoisonFillCompletion s) :=
  takeStep_inRange h fun t ht => by
    split
    · refine .next (State.entriesInRange.finishOp ?_ _)
      split
      · exact ht
      · exact ht
    · exact .next ht

/-! ### Completion records, RETAIN, the return channel and the release of a reset -/

theorem execCompletionPost_inRange (h : s.entriesInRange) : OutInRange (execCompletionPost s) :=
  takeStep_inRange h fun t ht => by
    have posted (p : Producer) : (t.postFrom p).entriesInRange := by cases p <;> exact ht
    split
    · split
      · exact .next (posted _)
      · exact .next ht
    · exact .next ht

theorem execEnterRetain_inRange (h : s.entriesInRange) : OutInRange (execEnterRetain s) :=
  takeStep_inRange h fun t ht => by
    split
    · split
      · exact .next ht
      · exact .next ht
    all_goals exact .next ht

theorem execReturnMessage_inRange (h : s.entriesInRange) : OutInRange (execReturnMessage s) :=
  takeStep_inRange h fun t ht => by
    split
    all_goals exact .next ht

theorem execResetRelease_inRange (h : s.entriesInRange) : OutInRange (execResetRelease s) := by
  unfold execResetRelease
  split
  · exact .next h
  · exact .next h

/-! ### Every step -/

/-- Every command keeps every entry present in its ranges. -/
theorem exec_inRange (c : Instr) (h : s.entriesInRange) : OutInRange (exec c s) := by
  cases c with
  | status | regRead | regWrite | submit | takeCompletion | takeReadout | takeEvent | wake | softReset | trimUp
  | trimDown | laneReset | laneEnable | alertClear | eventStatus | statisticsCounterClear | regionStatus | clearCount
  | eccInject => exact exec_inRange_of_requestOf h rfl
  | postUpdates records crc => exact execPostUpdates_inRange h records crc
  | cleanEnd => exact execCleanEnd_inRange h
  | earlyEnd op => exact execEarlyEnd_inRange h op
  | sink cause => exact execSink_inRange h cause
  | sselNFall sckHigh => exact execSselNFall_inRange h sckHigh
  | sinkEnd => exact execSinkEnd_inRange h
  | ignoredLowPeriod => exact execIgnoredLowPeriod_inRange h
  | define | init | adopt | retire => exact dispatch_inRange h _ fun c t ht => ht.takeRegionCommand _
  | readBin | writeBin => exact dispatch_inRange h _ fun c t ht => ht.withBinUnit _
  | sweep => exact execSweep_inRange h
  | cancelSweep => exact dispatch_inRange h _ fun c t ht => ht.cancelSweep _ _
  | fence => exact dispatch_inRange h _ fun c t ht => ht.startFence _ _
  | retain => exact execRetain_inRange h
  | updateAcceptance => exact takeStep_inRange h fun t ht => .next (ht.offers _ _)
  | commit => exact execCommit_inRange h
  | commitCompletion => exact execCommitCompletion_inRange h
  | binRead => exact execBinRead_inRange h
  | binReadCompletion => exact execBinReadCompletion_inRange h
  | binWrite => exact execBinWrite_inRange h
  | binWriteCompletion => exact execBinWriteCompletion_inRange h
  | sweepStep => exact execSweepStep_inRange h
  | sweepStepCompletion => exact execSweepStepCompletion_inRange h
  | initStep => exact execInitStep_inRange h
  | initStepCompletion => exact execInitStepCompletion_inRange h
  | refresh => exact execRefresh_inRange h
  | refreshCompletion => exact execRefreshCompletion_inRange h
  | poisonFill => exact execPoisonFill_inRange h
  | poisonFillCompletion => exact execPoisonFillCompletion_inRange h
  | completionPost => exact execCompletionPost_inRange h
  | enterRetain => exact execEnterRetain_inRange h
  | dataFrame samples | trainingFrame samples => exact takeStep_inRange h fun t ht => .next (ht.lclkEdges samples)
  | returnMessage => exact execReturnMessage_inRange h
  | timebaseTick => exact takeStep_inRange h fun t ht => .next (ht.of_storage t.tick_storage)
  | powerOnReset | pinReset => exact .next fun e he => nomatch he
  | resetRelease => exact execResetRelease_inRange h
  | markerRegistration => exact takeOutstanding_inRange h h.markRecord
  | lingerTick => exact takeOutstanding_inRange h h.lingerTick
  | sweepStart => exact takeOutstanding_inRange h h.sweepStart
  | terminalRecord => exact takeOutstanding_inRange h (h.of_storage s.terminalRecord_storage)
  | refreshDue => exact takeOutstanding_inRange h (h.of_storage s.refreshDue_storage)
  | seekRetrainRepeat => exact takeOutstanding_inRange h (h.of_storage s.seekRepeat_storage)
  | trainTimeout => exact takeOutstanding_inRange h (h.of_storage s.trainTimeout_storage)
  | laneStall => exact takeOutstanding_inRange h (h.of_storage s.stallReport_storage)
  | endOfInitialisation => exact takeOutstanding_inRange h (h.of_storage s.endOfInitialisation_storage)
  | reservedRecord => exact takeOutstanding_inRange h (h.of_storage s.reservedRecord_storage)
  | padRecord => exact takeOutstanding_inRange h (h.of_storage s.padRecord_storage)

end

/-- Settles O58: a step is the front command on the state with the queue's rest, and every command keeps the entries present
in range. -/
theorem stepsKeepTheEntriesInRange : Obligations.StepsKeepTheEntriesInRange := by
  intro s t hs hstep
  unfold step at hstep
  split at hstep
  · exact OutInRange.next hs t hstep
  · rename_i c rest _
    have queued : State.entriesInRange { s with pending := rest } := hs
    exact exec_inRange c queued t hstep

end Sys2Proof.Machine
end

section
/-! SUPPORT. What a reading operation leaves in the words of the array and of the armed mode (R94, R117, R119, R132, R149 to
R152), and that neither the updates that pass at its end nor a region command that acts there touches the array. -/

namespace Sys2Proof.Machine

/-! ### The end of an operation leaves the array (R80, R110, R111) -/

section
variable (s : State)

theorem State.storage_array {s t : State} (h : t.storage = s.storage) : t.array = s.array := congrArg Prod.snd h

theorem State.depart_array (src : Source) : (s.depart src).array = s.array := State.storage_array (s.depart_storage src)

theorem State.openEntry_array (src : Source) (r : HostRecord) (v : Int) : (s.openEntry src r v).array = s.array := by
  unfold State.openEntry
  split
  · exact State.depart_array _ src
  · exact State.storage_array (s.park_storage src)

theorem State.place_array (src : Source) (r : HostRecord) (v : Int) : (s.place src r v).array = s.array := by
  rcases s.place_cases src r v with ⟨_, -, -, he⟩ | ⟨-, he⟩ | ⟨_, -, -, he⟩ <;> rw [he]
  · exact State.depart_array _ src
  · exact s.openEntry_array src r v
  · exact State.openEntry_array _ src r v

theorem State.offer_array (src : Source) : (s.offer src).1.array = s.array := by
  rcases s.offer_cases src with ⟨-, he⟩ | ⟨r, reason, -, -, he⟩ | ⟨r, -, -, he⟩ <;> rw [he]
  · exact State.storage_array (s.reject_storage src r reason)
  · exact s.place_array src r _

theorem State.round_array (lane host : Bool) : (s.round lane host).state.array = s.array := by
  have offered (turn src : Source) : (State.offer { s with turn } src).1.array = s.array := State.offer_array _ src
  unfold State.round
  split
  · split
    · exact (State.offer_array _ _).trans (offered _ _)
    · exact (State.offer_array _ _).trans (offered _ _)
  · split
    · exact offered _ _
    · split
      · exact offered _ _
      · rfl

theorem State.offers_array (lane host : Bool) : (s.offers lane host).array = s.array := by
  have rounds (n : Nat) : ∀ (t : State) (l k : Bool), (t.rounds l k n).array = t.array := by
    induction n with
    | zero => exact fun _ _ _ => rfl
    | succ n ih =>
      intro t l k
      have after : (if (t.round l k).laneRejected then (t.round l k).state.handleOwn
          else (t.round l k).state).array = t.array := by
        split
        · exact (State.storage_array (State.handleOwn_storage _)).trans (t.round_array l k)
        · exact t.round_array l k
      unfold State.rounds
      dsimp only
      split
      · exact (ih _ _ _).trans after
      · exact after
  exact rounds _ _ _ _

theorem State.act_array (a : RegionCommand) : (s.act a).array = s.array := by rw [State.act_frame]

/-- The end of an operation leaves of the array all but the operation (R144). -/
theorem State.finishOp_array (departed : Bool) : (s.finishOp departed).array = { s.array with op := none } := by
  have acts (t : State) : t.actionMoment.array = t.array := by
    unfold State.actionMoment
    split
    · exact (State.offers_array _ _ _).trans (t.act_array _)
    all_goals rfl
  have passes (t : State) : t.beforeAction.array = t.array := by
    unfold State.beforeAction State.passUnparked
    split
    · split
      · exact t.offers_array _ _
      · rfl
    all_goals rfl
  have reoffers (t : State) : t.reoffer.array = t.array := by
    unfold State.reoffer
    split
    · exact t.offers_array _ _
    · rfl
  unfold State.finishOp
  dsimp only
  rw [acts]
  split
  · exact reoffers _
  · exact passes _

end

/-! ### The words (R94, R117, R119, R132, R149 to R152) -/

/-- The counter data that a reading operation writes, where it writes any (R94, R132). -/
def CounterOp.dataFor (c : CounterOp) (k : ReadKind) : BitVec 64 :=
  if k = .drain then c.resetValue else c.desc.format.encode c.applied.value

section
variable (s : State) (c : CounterOp) (k : ReadKind)

theorem State.writeBack_eq_storeCounter (h : c.storesFor k) : s.writeBack c k = s.storeCounter c (c.dataFor k) := by
  unfold State.writeBack CounterOp.dataFor
  rcases h with rfl | ⟨readable, reason⟩
  · rw [if_pos rfl, if_pos rfl]
  · by_cases drain : k = .drain
    · rw [if_pos drain, if_pos drain]
    · have writes : (k = .commit || !c.withdrawn.isEmpty || c.corrected) = true := by
        simpa [CounterOp.corrected, or_assoc] using reason
      rw [if_neg drain, if_neg drain, if_neg (by simp [readable]), if_pos writes]

/-- An operation that writes counter data marks nothing (R149, R150). -/
theorem State.markPoisoned_of_stores (h : c.storesFor k) : s.markPoisoned c k = s := by
  unfold State.markPoisoned
  rcases h with rfl | ⟨readable, -⟩
  · rw [if_neg (by simp)]
  · rw [if_neg (by simp [readable])]

theorem State.readCounter_words :
    (s.readCounter c k).array.words = ((((s.readReports c k).accessCounter c).markPoisoned c k).writeBack c k).array.words :=
  rfl

theorem State.readReports_words : (s.readReports c k).array.words = s.array.words := by rw [State.readReports_frame]

/-- With counter data written (R117, R119, R132, R152). -/
theorem State.readCounter_words_of_stores (h : c.storesFor k) :
    (s.readCounter c k).array.words
      = (((s.readReports c k).accessCounter c).storeCounter c (c.dataFor k)).array.words := by
  rw [State.readCounter_words, State.markPoisoned_of_stores _ c k h, State.writeBack_eq_storeCounter _ c k h]

/-- With none written, a poisoned counter is marked (R150, R151). -/
theorem State.readCounter_words_of_poisoned (h : ¬ c.storesFor k) (hp : c.poisoned = true) :
    (s.readCounter c k).array.words = (((s.readReports c k).accessCounter c).markCounter c).array.words := by
  have marks : (c.poisoned && decide (k ≠ .drain)) = true := by
    simp only [hp, Bool.true_and, decide_eq_true_eq]
    exact fun hk => h (.inl hk)
  rw [State.readCounter_words, State.writeBack_of_not_stores _ c k h, State.markPoisoned, if_pos marks]

/-- With none written and the counter readable, every word stays as it was. -/
theorem State.readCounter_words_of_readable (h : ¬ c.storesFor k) (hp : c.poisoned = false) :
    (s.readCounter c k).array.words = s.array.words := by
  rw [State.readCounter_words, State.writeBack_of_not_stores _ c k h, State.markPoisoned, if_neg (by simp [hp]),
    State.accessCounter_words, State.readReports_words]

end

/-! ### The rows -/

theorem mem_counterWords (d : Descriptor) (b : BinIx) (x : Nat) :
    x ∈ counterWords d b ↔ x = counterAddress d b ∨ (d.format.wide = true ∧ x = counterAddress d b + 1) := by
  unfold counterWords
  cases d.format.wide <;> simp

theorem Format.wide_eq (f : Format) : f.wide = decide (f = .u64 ∨ f = .s64) := by cases f <;> rfl

/-- The row of a reading operation ends the operation on a state whose array the counter's reading left, whatever is
parked or waits. -/
theorem exec_completesReading_finishOp {row : Instr} {c : CounterOp} {k : ReadKind} {s : State} (h : s.quiet)
    (hr : s.completesReading row c k) :
    ∃ (read : State) (departed : Bool), read.array = (s.readCounter c k).array
      ∧ exec row s = .next (read.finishOp departed) := by
  rcases hr with ⟨rfl, rfl, ho⟩ | ⟨rfl, rfl, t, ho⟩ | ⟨rfl, ho, w, rest, hs, rfl⟩
  · refine ⟨s.readCounter c .commit, !c.withdrawn.isEmpty, rfl, ?_⟩
    rw [show exec .commitCompletion s = execCommitCompletion s from rfl, execCommitCompletion,
      takeStep_of_quiet s _ h, ho]
  · refine ⟨{ s.readCounter c .binRead with
      binUnit := .posting (readCompletion t c.desc.format c.poisoned
        (if c.poisoned then 0#64 else c.desc.format.encode c.forwardedValue)) }, !c.withdrawn.isEmpty, rfl, ?_⟩
    rw [show exec .binReadCompletion s = execBinReadCompletion s from rfl, execBinReadCompletion,
      takeStep_of_quiet s _ h, ho]
  · let placed := (s.readCounter c (if w.isDrain then .drain else .snapshot)).placeRecord (stepRecord w c)
    refine ⟨{ placed with sweeps := w.stepped c placed.readout.length :: rest }, !c.withdrawn.isEmpty, rfl, ?_⟩
    rw [show exec .sweepStepCompletion s = execSweepStepCompletion s from rfl, execSweepStepCompletion,
      takeStep_of_quiet s _ h, ho, hs]

/-- Settles O35: the words are those that the counter's reading left, by whether it writes counter data, markers or
nothing. -/
theorem readingOperationsWriteTheCounter : Obligations.ReadingOperationsWriteTheCounter := by
  intro row c k a s poisoned corrected wide bits writes hq hs hr ha hwide hpoisoned hcorrected hbits hwrites
  obtain rfl : wide = c.desc.format.wide := hwide.trans (Format.wide_eq _).symm
  obtain rfl : a = counterAddress c.desc c.bin := ha
  obtain rfl : poisoned = c.poisoned := hpoisoned
  obtain rfl : corrected = c.corrected := hcorrected
  obtain rfl : bits = c.dataFor k := hbits
  have stores : writes = true ↔ c.storesFor k := by
    rw [hwrites]
    simp [CounterOp.corrected, or_assoc]
  have stores' : writes = false ↔ ¬ c.storesFor k := by rw [← stores, Bool.not_eq_true]
  obtain ⟨read, departed, hread, hrow⟩ := exec_completesReading_finishOp hq hr
  have harray : (read.finishOp departed).array = { (s.readCounter c k).array with op := none } :=
    hread ▸ read.finishOp_array departed
  generalize read.finishOp departed = t at hrow harray
  have words : t.array.words = (s.readCounter c k).array.words := by rw [harray]
  have reported : (s.readReports c k).wordsCanonical := by rwa [State.wordsCanonical, State.readReports_words]
  have accessed : ((s.readReports c k).accessCounter c).wordsCanonical := by
    rwa [State.wordsCanonical, State.accessCounter_words]
  have stored (h : c.storesFor k) := State.storeAccessed_words (s.readReports c k) c (c.dataFor k) t.array.words _ _
    (words.trans (s.readCounter_words_of_stores c k h)) reported rfl rfl
  have marked (h : ¬ c.storesFor k) (hp : c.poisoned = true) (x : Nat) :
      t.array.words.read x = if x ∈ counterWords c.desc c.bin then .marker else s.array.words.read x := by
    rw [words, s.readCounter_words_of_poisoned c k h hp, State.markCounter_read _ c x accessed,
      State.accessCounter_words, State.readReports_words]
  have kept (h : ¬ c.storesFor k) (hp : c.poisoned = false) : t.array.words = s.array.words :=
    words.trans (s.readCounter_words_of_readable c k h hp)
  refine ⟨t, hrow, by rw [harray], fun x hx hx' => ?_, fun hw => ?_, fun hw hp => ?_, fun hw hp x => ?_, ?_⟩
  · by_cases h : c.storesFor k
    · obtain ⟨other, -, -⟩ := stored h
      rw [other x hx hx', State.readReports_words]
    · cases hp : c.poisoned with
      | false => rw [kept h hp]
      | true =>
        rw [marked h hp, if_neg]
        rw [mem_counterWords]
        rintro (rfl | ⟨hwide, rfl⟩)
        · exact hx rfl
        · exact hx'.elim (fun narrow => Bool.false_ne_true (narrow.symm.trans hwide)) fun hne => hne rfl
  · obtain ⟨-, low, high⟩ := stored (stores.1 hw)
    exact ⟨low.trans (injectedCell_eq _ _), high⟩
  · refine ⟨?_, fun hwide => ?_⟩
    · rw [marked (stores'.1 hw) hp, if_pos ((mem_counterWords _ _ _).2 (.inl rfl))]
    · rw [marked (stores'.1 hw) hp, if_pos ((mem_counterWords _ _ _).2 (.inr ⟨hwide, rfl⟩))]
  · rw [kept (stores'.1 hw) hp]
  · obtain ⟨left, hread⟩ := s.readCounter_eq c k
    have ecc : t.array.ecc = if c.storesFor k then s.eccStored c else s.array.ecc := by rw [harray, hread]
    rw [ecc]
    by_cases h : c.storesFor k
    · simp only [h, stores.2 h, if_true, true_and, State.eccStored]
    · simp only [h, stores'.2 h, if_false, Bool.false_eq_true, false_and]

end Sys2Proof.Machine
end

section
/-! SUPPORT. Where an admitted update goes (R97, R105, R110 to R112): the one OPEN entry of its bin, a new entry at the tail,
or the park slot. -/

namespace Sys2Proof.Machine

/-! ### The OPEN entry of a bin (R109) -/

theorem Entry.isOpenOf_iff (e : Entry) (r : RegionIx) (b : BinIx) :
    e.isOpenOf r b = true ↔ e.region = r ∧ e.bin = b ∧ e.isSealed = false := by
  simp [Entry.isOpenOf, Entry.isOf, and_assoc]

/-- The list without an OPEN entry of the bin. -/
theorem State.find?_isOpenOf_of_sealed (s : State) (r : RegionIx) (b : BinIx)
    (h : ∀ e ∈ s.entries, e.region = r → e.bin = b → e.isSealed = true) :
    s.entries.find? (fun e => e.isOpenOf r b) = none := by
  rw [List.find?_eq_none]
  intro e he ho
  obtain ⟨hr, hb, open_⟩ := (e.isOpenOf_iff r b).1 ho
  exact Bool.false_ne_true (open_.symm.trans (h e he hr hb))

section
variable {s : State} {before after : List Entry} {e : Entry} {r : RegionIx} {b : BinIx}

/-- In a list in the order of R109 an OPEN entry is the only one of its bin. -/
theorem State.mergeOrdered.others_not_open (h : s.mergeOrdered) (he : s.entries = before ++ e :: after)
    (ho : e.isOpenOf r b = true) :
    (∀ x ∈ before, x.isOpenOf r b = false) ∧ ∀ x ∈ after, x.isOpenOf r b = false := by
  obtain ⟨hr, hb, open_⟩ := (e.isOpenOf_iff r b).1 ho
  rw [State.mergeOrdered, he, List.pairwise_append, List.pairwise_cons] at h
  obtain ⟨-, ⟨behind, -⟩, ahead⟩ := h
  refine ⟨fun x hx => Bool.eq_false_iff.2 fun hox => ?_, fun x hx => Bool.eq_false_iff.2 fun hox => ?_⟩
  · obtain ⟨hxr, hxb, xopen⟩ := (x.isOpenOf_iff r b).1 hox
    have xsealed := ahead x hx e List.mem_cons_self (by simp [Entry.isOf, hxr, hxb, hr, hb])
    exact Bool.false_ne_true (xopen.symm.trans xsealed)
  · obtain ⟨hxr, hxb, -⟩ := (x.isOpenOf_iff r b).1 hox
    have esealed := behind x hx (by simp [Entry.isOf, hxr, hxb, hr, hb])
    exact Bool.false_ne_true (open_.symm.trans esealed)

theorem State.mergeOrdered.find?_isOpenOf (h : s.mergeOrdered) (he : s.entries = before ++ e :: after)
    (ho : e.isOpenOf r b = true) : s.entries.find? (fun x => x.isOpenOf r b) = some e := by
  obtain ⟨ahead, -⟩ := h.others_not_open he ho
  have none_ahead : before.find? (fun x => x.isOpenOf r b) = none :=
    List.find?_eq_none.2 fun x hx => Bool.eq_false_iff.1 (ahead x hx)
  rw [he, List.find?_append, none_ahead, Option.none_or]
  exact List.find?_cons_of_pos ho

/-- A change of the bin's OPEN entry leaves every other entry, and every entry its place. -/
theorem State.mergeOrdered.map_isOpenOf (h : s.mergeOrdered) (he : s.entries = before ++ e :: after)
    (ho : e.isOpenOf r b = true) (f : Entry → Entry) :
    (s.entries.map fun x => if x.isOpenOf r b then f x else x) = before ++ f e :: after := by
  obtain ⟨ahead, behind⟩ := h.others_not_open he ho
  have same (l : List Entry) (hl : ∀ x ∈ l, x.isOpenOf r b = false) :
      (l.map fun x => if x.isOpenOf r b then f x else x) = l :=
    (List.map_congr_left fun x hx => if_neg (Bool.eq_false_iff.1 (hl x hx))).trans (List.map_id l)
  rw [he, List.map_append, List.map_cons, if_pos ho, same before ahead, same after behind]

end

/-! ### Placement (R105, R110, R111) -/

/-- R105 bars a merge for DECAY_ADD, and for ADD_SAT where the signs differ. -/
theorem mergeAllowed_eq_false_iff (op : Operator) (p v : Int) :
    mergeAllowed op p v = false ↔ op = .decayAdd ∨ (op = .addSat ∧ ((p < 0 ∧ 0 < v) ∨ (0 < p ∧ v < 0))) := by
  rw [← Bool.not_eq_true', Bool.eq_iff_iff]
  cases op with
  | addSat => simp [mergeAllowed]
  | addWrap | max | min | last | decayAdd => simp [mergeAllowed]

/-- The partial, the count, the seal and the sources of a merge (R105, R108, R110). -/
theorem Entry.merge_eq (e : Entry) (v : Int) (src : Source) :
    e.merge v src =
      { e with
        part := (match e.operator with
          | .max => Max.max e.part v
          | .min => Min.min e.part v
          | .last => v
          | _ => e.part + v)
        merges := e.merges + 1
        isSealed := decide (e.merges + 1 = 255)
        fromLane := e.fromLane || decide (src = .lane)
        fromHost := e.fromHost || decide (src = .host) } := by
  obtain ⟨_, _, op⟩ := e
  cases op <;> rfl

theorem State.openEntry_of_room (s : State) (src : Source) (r : HostRecord) (v : Int) (h : s.occupancy < 16) :
    s.openEntry src r v = State.depart { s with entries := s.entries ++ [s.newEntry src r v] } src := if_pos h

theorem State.openEntry_of_full (s : State) (src : Source) (r : HostRecord) (v : Int) (h : 16 ≤ s.occupancy) :
    s.openEntry src r v = s.park src := if_neg (Nat.not_lt.2 h)

theorem State.place_of_none (s : State) (src : Source) (r : HostRecord) (v : Int)
    (h : s.entries.find? (fun e => e.isOpenOf r.region r.bin) = none) : s.place src r v = s.openEntry src r v := by
  simp only [State.place, h]

section
variable {s : State} {before after : List Entry} {e : Entry} {r : HostRecord}

theorem State.mergeOrdered.place_of_allowed (h : s.mergeOrdered) (he : s.entries = before ++ e :: after)
    (ho : e.isOpenOf r.region r.bin = true) (src : Source) {v : Int} (ha : mergeAllowed e.operator e.part v = true) :
    s.place src r v = State.depart { s with entries := before ++ e.merge v src :: after } src := by
  simp only [State.place, h.find?_isOpenOf he ho, ha, if_true]
  rw [h.map_isOpenOf he ho]

theorem State.mergeOrdered.place_of_barred (h : s.mergeOrdered) (he : s.entries = before ++ e :: after)
    (ho : e.isOpenOf r.region r.bin = true) (src : Source) {v : Int} (ha : mergeAllowed e.operator e.part v = false) :
    s.place src r v
      = State.openEntry { s with entries := before ++ { e with isSealed := true } :: after } src r v := by
  simp only [State.place, h.find?_isOpenOf he ho, ha, Bool.false_eq_true, if_false, State.sealWhere]
  rw [h.map_isOpenOf he ho]

end

/-! ### One admitted update (R88, R112) -/

theorem State.offers_of_placed (s t : State) (src : Source)
    (ht : State.offer { s with turn := src.other } src = (t, false)) :
    s.offers (decide (src = .lane)) (decide (src = .host)) = t := by
  cases src with
  | lane =>
    have round := s.round_lane _ ht.symm
    exact (s.offers_of_no_rejection true false (by rw [round]) (by rw [round])).trans (by rw [round])
  | host =>
    have round := s.round_host _ ht.symm
    exact (s.offers_of_no_rejection false true (by rw [round]) (by rw [round])).trans (by rw [round])

/-- An admitted update that alone is ready is scaled and placed, and the pointer names the other source (R97, R110, R112). -/
theorem exec_updateAcceptance_admitted {s : State} {src : Source} {r : HostRecord} (h : s.quiet)
    (hhead : s.headRecord src = some r) (hparked : s.isParked src = false) (hother : s.ready src.other = false)
    (hr : rejectReason (s.region r.region) src r.bin = none) :
    exec .updateAcceptance s = .next (State.place { s with turn := src.other } src r
      (scaledValue (s.region r.region).desc r.value)) := by
  have ready : s.ready src = true := by simp [State.ready, hhead, hparked]
  have head : State.headRecord { s with turn := src.other } src = some r := by cases src <;> exact hhead
  have admitted : rejectReason (State.region { s with turn := src.other } r.region) src r.bin = none := hr
  have offered : State.offer { s with turn := src.other } src = (State.place { s with turn := src.other } src r
      (scaledValue (s.region r.region).desc r.value), false) := by
    simp only [State.offer, head, admitted]
    rfl
  rw [exec_updateAcceptance_single s src h ready hother, s.offers_of_placed _ src offered]

/-- Settles O29: the update is placed, by whether its bin has an OPEN entry, whether R105 bars the merge and whether a slot
is free. -/
theorem admittedUpdatesArePlaced : Obligations.AdmittedUpdatesArePlaced := by
  intro src r g v new swept s w hq hm hhead hparked hother hg hlive hpermitted hbin hv hnew hswept hw
  subst hg
  have admitted : rejectReason (s.region r.region) src r.bin = none := by
    have permitted : (s.region r.region).permits src = true := hpermitted
    rw [rejectReason_eq, if_neg (by simp [hlive]), if_neg (by simp [permitted]), if_neg (BitVec.not_lt.2 hbin)]
  have placed : exec .updateAcceptance s = .next (w.place src r v) := by
    rw [exec_updateAcceptance_admitted hq hhead hparked hother admitted, hw, hv]
    rfl
  have post : swept = (s.consistentSweep r.region).isSome := by
    rw [Bool.eq_iff_iff, hswept, Option.isSome_iff_exists]
    simp only [State.consistentSweep_eq_some_iff]
  have opened (l : List Entry) : State.newEntry { w with entries := l } src r v = new := by
    rw [hnew, hw, post, Bool.decide_or]
    rfl
  have ordered : w.mergeOrdered := by rw [hw]; exact hm
  have entries : w.entries = s.entries := by rw [hw]
  rw [placed]
  refine ⟨fun before after e barred he hr hb open_ hbarred => ?_, fun hsealed => ?_⟩
  · have isOpen : e.isOpenOf r.region r.bin = true := (e.isOpenOf_iff _ _).2 ⟨hr, hb, open_⟩
    have split : w.entries = before ++ e :: after := entries.trans he
    have bars : mergeAllowed e.operator e.part v = false ↔ barred :=
      (mergeAllowed_eq_false_iff _ _ _).trans hbarred.symm
    have occupied : State.occupancy { w with entries := before ++ { e with isSealed := true } :: after }
        = s.occupancy := by
      rw [hw, State.occupancy, State.occupancy, he]
      simp [State.withdrawn]
    refine ⟨fun hn => ?_, fun hbar hroom => ?_, fun hbar hfull => ?_⟩
    · rw [ordered.place_of_allowed split isOpen src (Bool.eq_true_of_not_eq_false fun hf => hn (bars.1 hf))]
      exact congrArg (fun x => Host.Outcome.next (State.depart { w with entries := before ++ x :: after } src))
        (e.merge_eq v src)
    · rw [ordered.place_of_barred split isOpen src (bars.2 hbar),
        State.openEntry_of_room _ _ _ _ (occupied ▸ hroom), opened]
    · rw [ordered.place_of_barred split isOpen src (bars.2 hbar),
        State.openEntry_of_full _ _ _ _ (occupied ▸ hfull)]
  · have none_open : w.entries.find? (fun e => e.isOpenOf r.region r.bin) = none :=
      w.find?_isOpenOf_of_sealed _ _ (entries.symm ▸ hsealed)
    have occupied : w.occupancy = s.occupancy := by rw [hw]; rfl
    rw [w.place_of_none src r v none_open]
    refine ⟨fun hroom => ?_, fun hfull => ?_⟩
    · rw [w.openEntry_of_room src r v (occupied ▸ hroom), entries, opened w.entries]
    · rw [w.openEntry_of_full src r v (occupied ▸ hfull)]

end Sys2Proof.Machine
end

section
/-! SUPPORT. What a step can do to the list of the Merge Buffer (R109, R110, R113, R116): entries leave it, change in
place, or join its tail; and that each of the three keeps the order of R109. -/

namespace Sys2Proof.Machine

/-! ### The three changes of the list -/

/-- An entry in its place may become another of its bin, but a SEALED entry is not opened again (R108, R109). -/
def Entry.MayBecome (e f : Entry) : Prop :=
  f.region = e.region ∧ f.bin = e.bin ∧ (e.isSealed = true → f.isSealed = true)

/-- How the list changes: entries leave (R86, R116), entries change in place (R105, R113, R114, R121), an entry joins
the tail where its bin has no OPEN one (R110), and any sequence of these. -/
inductive Evolves : List Entry → List Entry → Prop
  | leave {l m : List Entry} (h : m.Sublist l) : Evolves l m
  | change {l : List Entry} (f : Entry → Entry) (h : ∀ e : Entry, e.MayBecome (f e)) : Evolves l (l.map f)
  | join {l : List Entry} (e : Entry) (h : ∀ x ∈ l, x.isOpenOf e.region e.bin = false) : Evolves l (l ++ [e])
  | trans {l m n : List Entry} (hl : Evolves l m) (hm : Evolves m n) : Evolves l n

theorem Evolves.stay (l : List Entry) : Evolves l l := .leave (List.Sublist.refl l)

theorem Evolves.of_eq {l m : List Entry} (h : m = l) : Evolves l m := h ▸ .stay l

/-- A list that ends where another does has come as far. -/
theorem Evolves.then_eq {l m n : List Entry} (h : Evolves l m) (hn : n = m) : Evolves l n := hn ▸ h

/-- The two invariants of R109 for a list: an entry with a younger one of its bin behind it is SEALED. -/
abbrev InMergeOrder (l : List Entry) : Prop := l.Pairwise fun e f => e.isOf f.region f.bin = true → e.isSealed = true

/-- The order of R109 survives every change of the list. -/
theorem Evolves.inMergeOrder {l m : List Entry} (h : Evolves l m) (hl : InMergeOrder l) : InMergeOrder m := by
  induction h with
  | leave hm => exact hl.sublist hm
  | change f hf =>
    refine List.pairwise_map.2 (hl.imp fun {e g} older same => ?_)
    obtain ⟨er, eb, kept⟩ := hf e
    obtain ⟨gr, gb, -⟩ := hf g
    refine kept (older ?_)
    simpa only [Entry.isOf, er, eb, gr, gb] using same
  | join e none_open =>
    refine List.pairwise_append.2 ⟨hl, List.pairwise_singleton _ _, fun x hx f hf same => ?_⟩
    obtain rfl := List.mem_singleton.1 hf
    simpa [Entry.isOpenOf, same] using none_open x hx
  | trans _ _ first second => exact second (first hl)

/-! ### Changes in place -/

theorem Entry.mayBecome_sealed (e : Entry) : e.MayBecome { e with isSealed := true } := ⟨rfl, rfl, fun _ => rfl⟩

theorem Entry.mayBecome_ite {e f : Entry} (p : Prop) [Decidable p] (h : p → e.MayBecome f) :
    e.MayBecome (if p then f else e) := by
  split
  · exact h ‹_›
  · exact ⟨rfl, rfl, id⟩

/-- A merge goes into an OPEN entry (R105, R110). -/
theorem Entry.mayBecome_merge {e : Entry} {r : RegionIx} {b : BinIx} (h : e.isOpenOf r b = true) (v : Int)
    (src : Source) : e.MayBecome (e.merge v src) := by
  obtain ⟨-, -, open_⟩ := (e.isOpenOf_iff r b).1 h
  exact ⟨rfl, rfl, fun sealed_ => absurd (open_.symm.trans sealed_) Bool.false_ne_true⟩

section
variable (s : State)

theorem State.sealWhere_evolves (p : Entry → Bool) : Evolves s.entries (s.sealWhere p).entries :=
  .change _ fun e => Entry.mayBecome_ite _ fun _ => e.mayBecome_sealed

/-- Joining a wait set leaves an entry's bin and STATE (R121). -/
theorem State.joinWaits_evolves (p : Entry → Bool) (f : Waits → Waits) :
    Evolves s.entries (s.mapPresent fun e => if p e then { e with waits := f e.waits } else e).entries :=
  .change _ fun _ => Entry.mayBecome_ite _ fun _ => ⟨rfl, rfl, id⟩

theorem State.entries_of_storage {s t : State} (h : t.storage = s.storage) : t.entries = s.entries :=
  congrArg Prod.fst h

/-! ### The steps that fall at the moment of an earlier event -/

theorem State.markRecord_evolves : Evolves s.entries s.markRecord.entries := by
  rcases s.markRecord_cases with ⟨_, _, slot, -, -, -, -, he⟩ | ⟨-, he⟩ <;> rw [he]
  · have joined := State.joinWaits_evolves (s.sealWhere Entry.fromLane) Entry.fromLane fun w => w.addMark slot
    exact ((s.sealWhere_evolves _).trans joined).then_eq (State.entries_of_storage (State.laneHandled_storage _))
  · exact .stay _

theorem State.takeHeads_evolves : Evolves s.entries s.takeHeads.entries := by
  have heads (n : Nat) (t : State) : Evolves t.entries (t.headRecords n).entries := by
    induction n generalizing t with
    | zero => exact .stay _
    | succ n ih =>
      unfold State.headRecords
      split
      · have own : t.padRecord.reservedRecord.entries = t.entries := State.entries_of_storage (by simp)
        exact (Evolves.of_eq own).trans ((State.markRecord_evolves _).trans (ih _))
      · exact .stay _
  exact heads _ s

theorem State.lingerTick_evolves : Evolves s.entries s.lingerTick.entries := by
  unfold State.lingerTick
  split
  · exact .change _ fun _ => ⟨rfl, rfl, id⟩
  · exact .stay _

theorem State.sweepStart_evolves : Evolves s.entries s.sweepStart.entries := by
  unfold State.sweepStart
  split
  · exact .stay _
  · split
    · dsimp only
      split
      · exact .change _ fun _ => Entry.mayBecome_ite _ fun _ => ⟨rfl, rfl, fun _ => rfl⟩
      · exact .stay _
    · exact .stay _

theorem State.settle_evolves : Evolves s.entries s.settle.entries := by
  have before : s.takeHeads.endOfInitialisation.stallReport.entries = s.takeHeads.entries :=
    State.entries_of_storage (by simp)
  have between (t : State) : t.refreshDue.seekRepeat.trainTimeout.entries = t.entries :=
    State.entries_of_storage (by simp)
  have aged := (s.takeHeads_evolves.then_eq before).trans (State.lingerTick_evolves _)
  have started := (aged.then_eq (between _)).trans (State.sweepStart_evolves _)
  exact started.then_eq (State.entries_of_storage (State.terminalRecord_storage _))

theorem State.lclkEdges_evolves (samples : List LaneSample) : Evolves s.entries (s.lclkEdges samples).entries := by
  unfold State.lclkEdges
  induction samples generalizing s with
  | nil => exact .stay _
  | cons x samples ih =>
    exact (s.settle_evolves.then_eq (State.entries_of_storage (State.lclkEdge_storage _ x))).trans (ih _)

/-! ### The acceptance point (R88 to R90, R110 to R112) -/

theorem State.openEntry_evolves (src : Source) (r : HostRecord) (v : Int)
    (h : ∀ e ∈ s.entries, e.isOpenOf r.region r.bin = false) : Evolves s.entries (s.openEntry src r v).entries := by
  unfold State.openEntry
  split
  · exact (Evolves.join (s.newEntry src r v) h).then_eq (State.entries_of_storage (State.depart_storage _ src))
  · exact .of_eq (State.entries_of_storage (s.park_storage src))

/-- With the OPEN entry of a bin sealed, the bin has none (R105, R110). -/
theorem State.not_isOpenOf_of_sealWhere (r : RegionIx) (b : BinIx) :
    ∀ e ∈ (s.sealWhere fun e => e.isOpenOf r b).entries, e.isOpenOf r b = false := by
  intro e he
  obtain ⟨x, -, rfl⟩ := List.mem_map.1 he
  dsimp only
  split
  · simp [Entry.isOpenOf]
  · exact Bool.eq_false_iff.2 ‹_›

/-- An update merges into the OPEN entry of its bin, or opens one where there is none or none is left (R110). -/
theorem State.place_evolves (src : Source) (r : HostRecord) (v : Int) :
    Evolves s.entries (s.place src r v).entries := by
  rcases s.place_cases src r v with ⟨_, -, -, he⟩ | ⟨hn, he⟩ | ⟨_, -, -, he⟩ <;> rw [he]
  · have merged : Evolves s.entries (s.entries.map fun e => if e.isOpenOf r.region r.bin then e.merge v src else e) :=
      .change _ fun _ => Entry.mayBecome_ite _ fun open_ => Entry.mayBecome_merge open_ v src
    exact merged.then_eq (State.entries_of_storage (State.depart_storage _ src))
  · exact s.openEntry_evolves src r v fun e he => Bool.eq_false_iff.2 (List.find?_eq_none.1 hn e he)
  · refine (s.sealWhere_evolves _).trans (State.openEntry_evolves _ src r v ?_)
    exact s.not_isOpenOf_of_sealWhere r.region r.bin

theorem State.offer_evolves (src : Source) : Evolves s.entries (s.offer src).1.entries := by
  rcases s.offer_cases src with ⟨-, he⟩ | ⟨r, reason, -, -, he⟩ | ⟨r, -, -, he⟩ <;> rw [he]
  · exact .stay _
  · exact .of_eq (State.entries_of_storage (s.reject_storage src r reason))
  · exact s.place_evolves src r _

theorem State.round_evolves (laneReady hostReady : Bool) :
    Evolves s.entries (s.round laneReady hostReady).state.entries := by
  have offered (turn src : Source) : Evolves s.entries (State.offer { s with turn } src).1.entries :=
    State.offer_evolves { s with turn } src
  unfold State.round
  split
  · split
    · exact (offered _ _).trans (State.offer_evolves _ _)
    · exact (offered _ _).trans (State.offer_evolves _ _)
  · split
    · exact offered _ _
    · split
      · exact offered _ _
      · exact .stay _

theorem State.offers_evolves (laneReady hostReady : Bool) :
    Evolves s.entries (s.offers laneReady hostReady).entries := by
  have rounds (n : Nat) : ∀ (t : State) (l k : Bool), Evolves t.entries (t.rounds l k n).entries := by
    induction n with
    | zero => exact fun _ _ _ => .stay _
    | succ n ih =>
      intro t l k
      have after : Evolves t.entries (if (t.round l k).laneRejected then (t.round l k).state.handleOwn
          else (t.round l k).state).entries := by
        split
        · exact (t.round_evolves l k).then_eq (State.entries_of_storage (State.handleOwn_storage _))
        · exact t.round_evolves l k
      unfold State.rounds
      dsimp only
      split
      · exact after.trans (ih _ _ _)
      · exact after
  exact rounds _ _ _ _

/-! ### The Region Controller (R80 to R86) and the end of an operation -/

/-- Of the four region commands RETIRE alone touches the list, and removes entries (R86). -/
theorem State.act_evolves (a : RegionCommand) : Evolves s.entries (s.act a).entries := by
  cases a with
  | define t r raw =>
    simp only [State.act, State.actDefine]
    split <;> exact .stay _
  | init t r =>
    simp only [State.act, State.actInit]
    split <;> exact .stay _
  | adopt t r =>
    simp only [State.act, State.actAdopt]
    split <;> exact .stay _
  | retire t r =>
    simp only [State.act, State.actRetire]
    split
    · exact .stay _
    split
    · exact .stay _
    · exact .leave List.filter_sublist

theorem State.beforeAction_evolves : Evolves s.entries s.beforeAction.entries := by
  unfold State.beforeAction State.passUnparked
  split
  · split
    · exact s.offers_evolves _ _
    · exact .stay _
  all_goals exact .stay _

theorem State.actionMoment_evolves : Evolves s.entries s.actionMoment.entries := by
  unfold State.actionMoment
  split
  · exact (s.act_evolves _).trans (State.offers_evolves _ _ _)
  all_goals exact .stay _

theorem State.takeRegionCommand_evolves (a : RegionCommand) : Evolves s.entries (s.takeRegionCommand a).entries := by
  unfold State.takeRegionCommand
  dsimp only
  split
  · exact .stay _
  · exact (State.beforeAction_evolves { s with regionController := .awaiting a }).trans (State.actionMoment_evolves _)

theorem State.finishOp_evolves (departed : Bool) : Evolves s.entries (s.finishOp departed).entries := by
  unfold State.finishOp
  dsimp only
  split
  · refine Evolves.trans ?_ (State.actionMoment_evolves _)
    unfold State.reoffer
    split
    · exact s.endOp.offers_evolves _ _
    · exact .stay _
  · exact s.endOp.beforeAction_evolves.trans (State.actionMoment_evolves _)

end

end Sys2Proof.Machine
end

section
/-! SUPPORT. What each command does to the list of the Merge Buffer (R109, R110, R113, R116): row by row some changes of
the list or none, so every step keeps the order of R109. -/

namespace Sys2Proof.Machine

section
variable {s t u : State}

/-! ### The frames of the rows -/

/-- If the command ends in a next state, the list has come there by its changes. -/
def OutEvolves (s : State) (o : Out) : Prop := ∀ t, o = .next t → Evolves s.entries t.entries

theorem OutEvolves.next (h : Evolves s.entries t.entries) : OutEvolves s (.next t) := by
  rintro _ ⟨⟩
  exact h

theorem OutEvolves.same (h : t.entries = s.entries) : OutEvolves s (.next t) := .next (.of_eq h)

theorem OutEvolves.of_storage (h : t.storage = s.storage) : OutEvolves s (.next t) := .same (State.entries_of_storage h)

theorem takeStep_evolves (s : State) {f : State → Out} (hf : ∀ t, OutEvolves t (f t)) :
    OutEvolves s (takeStep s f) := by
  unfold takeStep
  split
  · exact .same rfl
  · exact fun t ht => s.settle_evolves.trans (hf _ t ht)

theorem takeOutstanding_evolves (s : State) {f : State → State} (hf : Evolves s.entries (f s).entries) :
    OutEvolves s (takeOutstanding s f) := by
  unfold takeOutstanding
  split
  · exact .same rfl
  · exact .next hf

theorem dispatch_evolves (s : State) (kind : CommandKind) {take : QueuedCommand → State → State}
    (ht : ∀ (c : QueuedCommand) (t : State), Evolves t.entries (take c t).entries) :
    OutEvolves s (dispatch kind take s) :=
  takeStep_evolves s fun t => by
    split
    · exact .same rfl
    · exact .next (ht _ t.dequeued)

/-- A grant moves the arbiter's pointer, which the list does not show (R145). -/
theorem grantTo_evolves (s : State) (m : Member) {f : State → State → Out}
    (hf : ∀ t u : State, u.entries = t.entries → OutEvolves t (f t u)) : OutEvolves s (grantTo m f s) :=
  takeStep_evolves s fun t => by
    split
    · exact hf t _ rfl
    · exact .same rfl

theorem request_evolves (s : State) (op : Opcode) (body : List Byte) (crc : Byte) (own : State → Decision) :
    OutEvolves s (request op body crc own s) :=
  takeStep_evolves s fun t => by
    split
    · exact .of_storage (t.respond_storage _ _)
    · exact .same rfl

/-! ### The Host Port -/

theorem exec_evolves_of_requestOf (s : State) {c : Instr} {op : Opcode} {body : List Byte} {crc : Byte}
    (hc : requestOf c = some (op, body, crc)) : OutEvolves s (exec c s) := by
  obtain ⟨own, hx⟩ := exec_of_requestOf c op body crc hc
  rw [hx]
  exact request_evolves s _ _ _ _

theorem execPostUpdates_evolves (records : List UpdateRecord) (crc : Byte) :
    OutEvolves s (execPostUpdates records crc s) := by
  unfold execPostUpdates
  split
  · exact request_evolves s _ _ _ _
  · refine takeStep_evolves s fun t => ?_
    split
    · exact .of_storage (t.enterSink_storage _ _)
    · exact .same rfl

theorem State.writeRegister_entries (s : State) (v : Word) (r : Register) :
    (s.writeRegister v r).entries = s.entries := by
  cases r with
  | laneControl =>
    simp only [State.writeRegister, State.writeLaneControl]
    split
    · exact State.entries_of_storage (State.laneReset_storage _)
    · split <;> rfl
  | _ => rfl

/-- A soft reset empties the list, and no other commit touches it (R15, R170). -/
theorem State.commit_evolves (s : State) (c : Commit) : Evolves s.entries (s.commit c).entries := by
  cases c with
  | writeRegister r v => exact .of_eq (s.writeRegister_entries v r)
  | takeReadout n =>
    rw [State.commit, State.resumeSweep_eq]
    exact .stay _
  | wake =>
    simp only [State.commit, State.wakeUp]
    split <;> exact .stay _
  | softReset =>
    have emptied : s.softReset.entries = [] := State.entries_of_storage (State.log_storage s.softCleared _)
    exact .leave (emptied.symm ▸ List.nil_sublist _)
  | nothing | post | submit | takeCompletion | takeEvent | arm => exact .stay _

theorem execCleanEnd_evolves : OutEvolves s (execCleanEnd s) :=
  takeStep_evolves s fun t => by
    split
    · exact .next (t.commit_evolves _)
    all_goals exact .same rfl

theorem execEarlyEnd_evolves (op : Opcode) : OutEvolves s (execEarlyEnd op s) :=
  takeStep_evolves s fun t => by
    have reported (o : Byte) : OutEvolves t (.next ((t.hostError o 1#8).endTransaction true false)) :=
      .of_storage (t.hostError_storage o 1#8)
    split
    · exact reported _
    · exact reported _
    · split
      · exact .same rfl
      · exact reported _
    all_goals exact .same rfl

theorem execSink_evolves (cause : SinkCause) : OutEvolves s (execSink cause s) :=
  takeStep_evolves s fun t => by
    have entered (b reason : Byte) : OutEvolves t (.next (t.enterSink b reason)) :=
      .of_storage (t.enterSink_storage b reason)
    split
    · split
      · split
        · exact .same rfl
        · exact entered _ _
      · split
        · exact .same rfl
        · exact entered _ _
    · exact .same rfl

theorem execSselNFall_evolves (sckHigh : Bool) : OutEvolves s (execSselNFall sckHigh s) :=
  takeStep_evolves s fun t => by
    split <;> exact .same rfl

theorem execSinkEnd_evolves : OutEvolves s (execSinkEnd s) :=
  takeStep_evolves s fun t => by
    split <;> exact .same rfl

theorem execIgnoredLowPeriod_evolves : OutEvolves s (execIgnoredLowPeriod s) :=
  takeStep_evolves s fun t => by
    split <;> exact .same rfl

/-! ### Dispatch (R35) -/

theorem State.startFence_evolves (s : State) (ticket : Ticket) (laneFlag : Bool) :
    Evolves s.entries (s.startFence ticket laneFlag).entries :=
  (s.sealWhere_evolves fun e => laneFlag || e.fromHost).trans
    (State.joinWaits_evolves _ (fun e => laneFlag || e.fromHost) fun w => { w with fence := true })

theorem execReadBin_evolves : OutEvolves s (execReadBin s) := dispatch_evolves s _ fun _ _ => .of_eq rfl

theorem execWriteBin_evolves : OutEvolves s (execWriteBin s) := dispatch_evolves s _ fun _ _ => .of_eq rfl

theorem execCancelSweep_evolves : OutEvolves s (execCancelSweep s) := dispatch_evolves s _ fun _ _ => .of_eq rfl

theorem execSweep_evolves : OutEvolves s (execSweep s) :=
  dispatch_evolves s _ fun c t => by
    dsimp only
    split
    · exact .of_eq rfl
    · exact .of_eq rfl

theorem execRetain_evolves : OutEvolves s (execRetain s) :=
  dispatch_evolves s _ fun c t => by
    have quieted : Evolves t.entries (t.sealWhere fun _ => true).entries := t.sealWhere_evolves _
    split
    · exact .stay _
    · exact quieted

/-! ### Grants (R144, R145) -/

/-- The entries that an operation takes leave the list (R116). -/
theorem beginOn_evolves (c : CounterOp) (op : ArrayOp) (h : u.entries.Sublist t.entries) :
    OutEvolves t (beginOn c op u) := by
  unfold beginOn
  split
  · exact .next (.leave h)
  · exact fun _ hn => nomatch hn

theorem beginOn_withdraw_evolves (c : CounterOp) (op : ArrayOp) (p : Entry → Bool) (h : u.entries = t.entries) :
    OutEvolves t (beginOn c op (u.withdraw p)) :=
  beginOn_evolves c op (h ▸ List.filter_sublist)

theorem pickEligible_sublist (p : Entry → Bool) (l : List Entry) (q : Entry × List Entry)
    (h : pickEligible p l = some q) : q.2.Sublist l := by
  induction l generalizing q with
  | nil => cases h
  | cons e l ih =>
    unfold pickEligible at h
    split at h
    · cases h
      exact List.sublist_cons_self e l
    · obtain ⟨q', hq, rfl⟩ := Option.map_eq_some_iff.1 h
      exact (ih q' hq).cons_cons e

theorem execCommit_evolves : OutEvolves s (execCommit s) :=
  grantTo_evolves s _ fun t u hu => by
    dsimp only
    split
    · exact .same rfl
    · exact beginOn_evolves _ _ (hu ▸ pickEligible_sublist _ _ _ ‹_›)

theorem execBinRead_evolves : OutEvolves s (execBinRead s) :=
  grantTo_evolves s _ fun t u hu => by
    dsimp only
    split
    · split
      · exact .same hu
      · exact beginOn_withdraw_evolves _ _ _ hu
    · exact .same rfl

theorem execBinWrite_evolves : OutEvolves s (execBinWrite s) :=
  grantTo_evolves s _ fun t u hu => by
    dsimp only
    split
    · split
      · exact .same hu
      · exact beginOn_withdraw_evolves _ _ _ hu
    · exact .same rfl

theorem execSweepStep_evolves : OutEvolves s (execSweepStep s) :=
  grantTo_evolves s _ fun t u hu => by
    dsimp only
    split
    · exact .same rfl
    · exact beginOn_withdraw_evolves _ _ _ hu

theorem execInitStep_evolves : OutEvolves s (execInitStep s) :=
  grantTo_evolves s _ fun t u hu => by
    dsimp only
    split
    · exact beginOn_evolves _ _ (hu ▸ List.Sublist.refl _)
    · exact .same rfl

theorem execRefresh_evolves : OutEvolves s (execRefresh s) :=
  takeStep_evolves s fun t => by
    split <;> exact .same rfl

theorem execPoisonFill_evolves : OutEvolves s (execPoisonFill s) :=
  takeStep_evolves s fun t => by
    split
    · split <;> exact .same rfl
    · exact .same rfl

/-! ### Completions of operations -/

/-- An operation's own effect leaves the list, and its end lets updates pass (R110, R111, R144). -/
theorem OutEvolves.finishOp (h : u.entries = t.entries) (departed : Bool) :
    OutEvolves t (.next (u.finishOp departed)) :=
  .next ((Evolves.of_eq h).trans (u.finishOp_evolves departed))

theorem State.readCounter_entries (s : State) (c : CounterOp) (k : ReadKind) :
    (s.readCounter c k).entries = s.entries := by
  rw [State.readCounter_frame]

theorem State.storeAccessed_entries (s : State) (c : CounterOp) (bits : BitVec 64) :
    ((s.accessCounter c).storeCounter c bits).entries = s.entries := by
  rw [State.storeAccessed_frame]

theorem State.filled_entries (s : State) : s.filled.entries = s.entries := by
  unfold State.filled
  split
  · split <;> rfl
  all_goals rfl

theorem execCommitCompletion_evolves : OutEvolves s (execCommitCompletion s) :=
  takeStep_evolves s fun t => by
    split
    · exact .finishOp (t.readCounter_entries _ _) _
    · exact .same rfl

theorem execBinReadCompletion_evolves : OutEvolves s (execBinReadCompletion s) :=
  takeStep_evolves s fun t => by
    split
    · refine .finishOp ?_ _
      exact t.readCounter_entries _ _
    · exact .same rfl

theorem execBinWriteCompletion_evolves : OutEvolves s (execBinWriteCompletion s) :=
  takeStep_evolves s fun t => by
    split
    · rename_i c v _
      refine .finishOp ?_ _
      exact t.storeAccessed_entries c v
    · exact .same rfl

theorem execSweepStepCompletion_evolves : OutEvolves s (execSweepStepCompletion s) :=
  takeStep_evolves s fun t => by
    split
    · refine .finishOp ?_ _
      exact t.readCounter_entries _ _
    · exact .same rfl

theorem execInitStepCompletion_evolves : OutEvolves s (execInitStepCompletion s) :=
  takeStep_evolves s fun t => by
    split
    · exact .finishOp ((State.filled_entries _).trans (t.storeAccessed_entries _ _)) _
    · exact .same rfl

theorem execRefreshCompletion_evolves : OutEvolves s (execRefreshCompletion s) :=
  takeStep_evolves s fun t => by
    split
    · refine .finishOp ?_ _
      rfl
    · exact .same rfl

theorem execPoisonFillCompletion_evolves : OutEvolves s (execPoisonFillCompletion s) :=
  takeStep_evolves s fun t => by
    split
    · refine .finishOp ?_ _
      split <;> rfl
    · exact .same rfl

/-! ### Completion records, RETAIN, the return channel and the release of a reset -/

theorem execCompletionPost_evolves : OutEvolves s (execCompletionPost s) :=
  takeStep_evolves s fun t => by
    have posted (p : Producer) : (t.postFrom p).entries = t.entries := by cases p <;> rfl
    split
    · split
      · exact .same (posted _)
      · exact .same rfl
    · exact .same rfl

theorem execEnterRetain_evolves : OutEvolves s (execEnterRetain s) :=
  takeStep_evolves s fun t => by
    split
    · split <;> exact .same rfl
    all_goals exact .same rfl

theorem execReturnMessage_evolves : OutEvolves s (execReturnMessage s) :=
  takeStep_evolves s fun t => by
    split <;> exact .same rfl

theorem execResetRelease_evolves : OutEvolves s (execResetRelease s) := by
  unfold execResetRelease
  split <;> exact .same rfl

/-! ### Every step -/

/-- All that a command can do to the list of the Merge Buffer: its changes, one after another (R109). -/
theorem exec_evolves (c : Instr) : OutEvolves s (exec c s) := by
  cases c with
  | status | regRead | regWrite | submit | takeCompletion | takeReadout | takeEvent | wake | softReset | trimUp
  | trimDown | laneReset | laneEnable | alertClear | eventStatus | statisticsCounterClear | regionStatus | clearCount
  | eccInject => exact exec_evolves_of_requestOf s rfl
  | postUpdates records crc => exact execPostUpdates_evolves records crc
  | cleanEnd => exact execCleanEnd_evolves
  | earlyEnd op => exact execEarlyEnd_evolves op
  | sink cause => exact execSink_evolves cause
  | sselNFall sckHigh => exact execSselNFall_evolves sckHigh
  | sinkEnd => exact execSinkEnd_evolves
  | ignoredLowPeriod => exact execIgnoredLowPeriod_evolves
  | define | init | adopt | retire => exact dispatch_evolves s _ fun c t => t.takeRegionCommand_evolves _
  | readBin => exact execReadBin_evolves
  | writeBin => exact execWriteBin_evolves
  | cancelSweep => exact execCancelSweep_evolves
  | sweep => exact execSweep_evolves
  | fence => exact dispatch_evolves s _ fun c t => t.startFence_evolves _ _
  | retain => exact execRetain_evolves
  | updateAcceptance => exact takeStep_evolves s fun t => .next (t.offers_evolves _ _)
  | commit => exact execCommit_evolves
  | commitCompletion => exact execCommitCompletion_evolves
  | binRead => exact execBinRead_evolves
  | binReadCompletion => exact execBinReadCompletion_evolves
  | binWrite => exact execBinWrite_evolves
  | binWriteCompletion => exact execBinWriteCompletion_evolves
  | sweepStep => exact execSweepStep_evolves
  | sweepStepCompletion => exact execSweepStepCompletion_evolves
  | initStep => exact execInitStep_evolves
  | initStepCompletion => exact execInitStepCompletion_evolves
  | refresh => exact execRefresh_evolves
  | refreshCompletion => exact execRefreshCompletion_evolves
  | poisonFill => exact execPoisonFill_evolves
  | poisonFillCompletion => exact execPoisonFillCompletion_evolves
  | completionPost => exact execCompletionPost_evolves
  | enterRetain => exact execEnterRetain_evolves
  | dataFrame samples | trainingFrame samples => exact takeStep_evolves s fun t => .next (t.lclkEdges_evolves samples)
  | returnMessage => exact execReturnMessage_evolves
  | timebaseTick => exact takeStep_evolves s fun t => .of_storage t.tick_storage
  | powerOnReset | pinReset => exact .next (.leave (List.nil_sublist _))
  | resetRelease => exact execResetRelease_evolves
  | markerRegistration => exact takeOutstanding_evolves s s.markRecord_evolves
  | lingerTick => exact takeOutstanding_evolves s s.lingerTick_evolves
  | sweepStart => exact takeOutstanding_evolves s s.sweepStart_evolves
  | terminalRecord => exact takeOutstanding_evolves s (.of_eq (State.entries_of_storage s.terminalRecord_storage))
  | refreshDue => exact takeOutstanding_evolves s (.of_eq (State.entries_of_storage s.refreshDue_storage))
  | seekRetrainRepeat => exact takeOutstanding_evolves s (.of_eq (State.entries_of_storage s.seekRepeat_storage))
  | trainTimeout => exact takeOutstanding_evolves s (.of_eq (State.entries_of_storage s.trainTimeout_storage))
  | laneStall => exact takeOutstanding_evolves s (.of_eq (State.entries_of_storage s.stallReport_storage))
  | endOfInitialisation =>
    exact takeOutstanding_evolves s (.of_eq (State.entries_of_storage s.endOfInitialisation_storage))
  | reservedRecord => exact takeOutstanding_evolves s (.of_eq (State.entries_of_storage s.reservedRecord_storage))
  | padRecord => exact takeOutstanding_evolves s (.of_eq (State.entries_of_storage s.padRecord_storage))

end

theorem step_evolves (s : State) : OutEvolves s (step s) := by
  unfold step
  split
  · exact .same rfl
  · rename_i c rest _
    exact exec_evolves (s := { s with pending := rest }) c

/-- Settles O57: a step changes the list only by entries that leave, change in place without being opened again, or join
the tail where their bin has no OPEN entry, and each of these keeps the order. -/
theorem stepsKeepTheMergeListOrdered : Obligations.StepsKeepTheMergeListOrdered := by
  intro s t ordered hstep
  exact (step_evolves s t hstep).inMergeOrder ordered

end Sys2Proof.Machine
end

section
/-! SUPPORT. The dispatch of READ_BIN, WRITE_BIN, SWEEP and CANCEL_SWEEP (R119, R120, R128, R135). -/

namespace Sys2Proof.Machine

/-! ### The checks of a SWEEP in their order (R128) -/

section
variable {s : State} {w : Sweep}

theorem State.sweepCheck_of_state (h : (s.region w.region).state ≠ .live) : s.sweepCheck w = some .state := if_pos h

theorem State.sweepCheck_of_binRange (hl : (s.region w.region).state = .live)
    (h : w.last < w.first ∨ (s.region w.region).desc.binsMinus1 < w.last) : s.sweepCheck w = some .binRange := by
  rw [State.sweepCheck, if_neg (not_not.2 hl), if_pos (by simpa using h)]

/-- With the region LIVE and the range inside it, only the room in the Sweep Queue is left to check. -/
theorem State.sweepCheck_of_range (hl : (s.region w.region).state = .live) (hf : w.first ≤ w.last)
    (hb : w.last ≤ (s.region w.region).desc.binsMinus1) :
    s.sweepCheck w = if 4 ≤ s.sweeps.length then some .full else none := by
  rw [State.sweepCheck, if_neg (not_not.2 hl), if_neg (by simp [BitVec.not_lt.2 hf, BitVec.not_lt.2 hb])]
  rfl

end

/-! ### The rows -/

section
variable {s : State} {c : QueuedCommand} {rest : List QueuedCommand}

/-- A SWEEP that fails a check is answered in the intake. -/
theorem exec_sweep_of_failed (h : s.quiet) (hd : s.dispatches .sweep c rest) {e : Result}
    (hc : s.sweepCheck (sweepOf c.ticket c.params) = some e) :
    exec .sweep s = .next { s with commands := rest, intake := [plainCompletion c.ticket e] } := by
  have checked : State.sweepCheck { s with commands := rest } (sweepOf c.ticket c.params) = some e := hc
  refine (execSweep.eq_1 s).trans ((dispatch_of_dispatches _ h hd).trans ?_)
  simp only [checked]

/-- A SWEEP that passes its checks joins the tail of the Sweep Queue. -/
theorem exec_sweep_of_passed (h : s.quiet) (hd : s.dispatches .sweep c rest)
    (hc : s.sweepCheck (sweepOf c.ticket c.params) = none) :
    exec .sweep s = .next { s with commands := rest, sweeps := s.sweeps ++ [sweepOf c.ticket c.params] } := by
  have checked : State.sweepCheck { s with commands := rest } (sweepOf c.ticket c.params) = none := hc
  refine (execSweep.eq_1 s).trans ((dispatch_of_dispatches _ h hd).trans ?_)
  simp only [checked]

theorem exec_cancelSweep_of_dispatches (h : s.quiet) (hd : s.dispatches .cancelSweep c rest) :
    exec .cancelSweep s
      = .next (State.cancelSweep { s with commands := rest } c.ticket ((paramByte c.params 0).extractLsb' 0 4)) :=
  dispatch_of_dispatches (fun c s => s.cancelSweep c.ticket ((paramByte c.params 0).extractLsb' 0 4)) h hd

end

theorem Sweep.queuedWith_eq (w : Sweep) (t : Tag) : w.queuedWith t = decide (w.state = .queued ∧ w.tag = t) :=
  (Bool.decide_and _ _).symm

theorem Sweep.closeIf_eq (w : Sweep) (t : Tag) :
    w.closeIf t
      = if w.tag = t ∧ (w.state = .running ∨ w.state = .stalled) then { w with state := .closing } else w := by
  simp [Sweep.closeIf]

/-- Settles O26: each unit takes its command; a SWEEP by the first check of R128 that fails, and a CANCEL_SWEEP by the
tags of the sweeps that stand in the queue. -/
theorem binAndSweepCommandsAreTaken : Obligations.BinAndSweepCommandsAreTaken := by
  intro c rest s r hq hr
  subst hr
  refine ⟨fun hd => (execReadBin.eq_1 s).trans (dispatch_of_dispatches _ hq hd),
    fun hd => (execWriteBin.eq_1 s).trans (dispatch_of_dispatches _ hq hd),
    fun hd first last answer hfirst hlast hanswer => ?_, fun hd t goes ht hgoes => ?_⟩
  · subst hfirst hlast
    have fails {e : Result} (hc : s.sweepCheck (sweepOf c.ticket c.params) = some e) :
        exec .sweep s = .next (answer e) := (exec_sweep_of_failed hq hd hc).trans (by rw [hanswer])
    refine ⟨fun hn => fails (State.sweepCheck_of_state hn), fun hl hb => fails (State.sweepCheck_of_binRange hl hb),
      fun hl hf hb => ⟨fun full => fails ?_, fun room => exec_sweep_of_passed hq hd ?_⟩⟩
    · exact (State.sweepCheck_of_range hl hf hb).trans (if_pos full)
    · exact (State.sweepCheck_of_range hl hf hb).trans (if_neg (Nat.not_le.2 room))
  · obtain rfl : goes = fun w => w.queuedWith t := funext fun w => (hgoes w).trans (w.queuedWith_eq t).symm
    rw [exec_cancelSweep_of_dispatches hq hd, State.cancelSweep, ← ht]
    simp only [Sweep.closeIf_eq, List.any_eq_true, decide_eq_true_eq]

end Sys2Proof.Machine
end

section
/-! SUPPORT. What an operation on a counter takes at its grant (R83, R115 to R119, R132, R144, R145): COMMIT, INIT_STEP
and SWEEP_STEP, and the checks and entries of BIN_READ and BIN_WRITE. -/

namespace Sys2Proof.Machine

/-! ### A grant and the beginning of its operation -/

/-- The arbiter's pointer moves past the member that is granted (R145). -/
def State.pointing (s : State) (m : Member) : State := { s with array := { s.array with pointer := m } }

theorem grantTo_of_granted (m : Member) (f : State → State → Out) {s : State} (h : s.quiet)
    (hg : s.nextGrant = some (.member m)) : grantTo m f s = f s (s.pointing m.following) :=
  (grantTo_of_quiet m f s h).trans (if_pos hg)

/-- An operation begins on a counter inside the array, and stops on one beyond it (R142). -/
theorem beginOn_spec {o : Out} {c : CounterOp} {op : ArrayOp} {s : State} (h : o = beginOn c op s) :
    (counterLastWord c.desc c.bin < 2097152 → o = .next (s.startOp op))
      ∧ (2097152 ≤ counterLastWord c.desc c.bin → o = .fault (.noSuchWord (counterLastWord c.desc c.bin))) :=
  ⟨fun inside => h.trans (if_pos inside), fun beyond => h.trans (if_neg (Nat.not_lt.2 beyond))⟩

/-! ### COMMIT, INIT_STEP and SWEEP_STEP -/

/-- The oldest eligible entry is the one with none eligible ahead of it (R117). -/
theorem pickEligible_append (p : Entry → Bool) (before after : List Entry) (e : Entry)
    (hb : ∀ q ∈ before, ¬ p q = true) (he : p e = true) :
    pickEligible p (before ++ e :: after) = some (e, before ++ after) := by
  induction before with
  | nil => simp [pickEligible, he]
  | cons q before ih =>
    obtain ⟨hq, hb⟩ := List.forall_mem_cons.1 hb
    simp [pickEligible, hq, ih hb]

section
variable {s : State}

theorem exec_commit_of_granted {before after : List Entry} {e : Entry} (h : s.quiet)
    (hg : s.nextGrant = some (.member .commit)) (he : s.entries = before ++ e :: after)
    (hb : ∀ q ∈ before, ¬ s.mayCommit q) (hm : s.mayCommit e) :
    exec .commit s = beginOn (s.capture e.region e.bin [e] []) (.commit (s.capture e.region e.bin [e] []))
      { s.pointing .init with entries := before ++ after } := by
  have picked : pickEligible (s.pointing .init).eligible (s.pointing .init).entries = some (e, before ++ after) := by
    rw [show (s.pointing .init).entries = before ++ e :: after from he]
    exact pickEligible_append s.eligible before after e (fun q hq hp => hb q hq ((s.eligible_iff q).1 hp))
      ((s.eligible_iff e).2 hm)
  refine (execCommit.eq_1 s).trans ((grantTo_of_granted _ _ h hg).trans ?_)
  simp only [Member.following, picked]
  rfl

theorem exec_initStep_of_granted {t : Ticket} {r : RegionIx} {n : Nat} (h : s.quiet)
    (hg : s.nextGrant = some (.member .init)) (hr : s.regionController = .filling t r n) :
    exec .initStep s = beginOn (s.capture r (BitVec.ofNat 16 n) [] [])
      (.initStep (s.capture r (BitVec.ofNat 16 n) [] [])) (s.pointing .binAccess) := by
  have filling : (s.pointing .binAccess).regionController = .filling t r n := hr
  refine (execInitStep.eq_1 s).trans ((grantTo_of_granted _ _ h hg).trans ?_)
  simp only [Member.following, filling]
  rfl

theorem exec_sweepStep_of_granted {w : Sweep} {rest : List Sweep} {b : BinIx} {mine : Entry → Bool} (h : s.quiet)
    (hg : s.nextGrant = some (.member .sweep)) (hw : s.sweeps = w :: rest) (hb : b = BitVec.ofNat 16 w.cursor)
    (hm : ∀ e, mine e = (e.isOf w.region b && !s.pinned e)) :
    exec .sweepStep s = beginOn (s.capture w.region b (s.entries.filter mine) [])
      (.sweepStep (s.capture w.region b (s.entries.filter mine) [])) ((s.pointing .commit).withdraw mine) := by
  have sweeping : (s.pointing .commit).sweeps = w :: rest := hw
  obtain rfl := funext hm
  subst hb
  refine (execSweepStep.eq_1 s).trans ((grantTo_of_granted _ _ h hg).trans ?_)
  simp only [Member.following, sweeping]
  rfl

end

theorem Entry.isOf_iff (e : Entry) (r : RegionIx) (b : BinIx) : e.isOf r b = true ↔ e.region = r ∧ e.bin = b := by
  simp [Entry.isOf]

/-- Settles O33: each row begins its operation on what it takes, and the counter's last word says whether it can. -/
theorem commitAndStepGrants : Obligations.CommitAndStepGrants := by
  intro s counter hq hcounter
  obtain rfl : counter = fun r b taken => s.capture r b taken [] := by
    funext r b taken
    exact hcounter r b taken
  refine ⟨fun before after e hg he hb hm => beginOn_spec (exec_commit_of_granted hq hg he hb hm),
    fun t r n b hg hr hb => ?_, fun w rest b mine hg hw hb hmine => ?_⟩
  · subst hb
    exact beginOn_spec (exec_initStep_of_granted hq hg hr)
  · have taken (e : Entry) : mine e = (e.isOf w.region b && !s.pinned e) := by
      rw [Bool.eq_iff_iff, hmine, Bool.and_eq_true, Entry.isOf_iff, Bool.not_eq_true', ← Bool.not_eq_true, s.pinned_iff,
        and_assoc]
    exact beginOn_spec (exec_sweepStep_of_granted hq hg hw hb taken)

/-! ### BIN_READ and BIN_WRITE -/

section
variable {s : State} {t : Ticket} {r : RegionIx} {b : BinIx} {v : BitVec 64}

/-- The checks of a bin operation in their order (R119, R120). -/
theorem State.binCheck_eq_some_iff (isWrite : Bool) (e : Result) :
    s.binCheck r b isWrite = some e ↔
      ((s.region r).state ≠ .live ∧ e = .state)
        ∨ ((s.region r).state = .live ∧ (s.region r).desc.binsMinus1 < b ∧ e = .binRange)
        ∨ ((s.region r).state = .live ∧ b ≤ (s.region r).desc.binsMinus1 ∧ isWrite = true
            ∧ (∃ x, s.sweptConsistently x r) ∧ e = .busy) := by
  have swept : (∃ x, s.sweptConsistently x r) ↔ (s.consistentSweep r).isSome = true := by
    simp only [← s.consistentSweep_eq_some_iff, Option.isSome_iff_exists]
  rw [State.binCheck, swept]
  by_cases live : (s.region r).state = .live
  · by_cases beyond : (s.region r).desc.binsMinus1 < b
    · simp [live, beyond, BitVec.not_le.2 beyond, @eq_comm _ _ e]
    · cases isWrite with
      | false => simp [live, beyond]
      | true => simp [live, beyond, BitVec.not_lt.1 beyond, @eq_comm _ _ e]
  · simp [live, @eq_comm _ _ e]

/-- The entries of the bin that a bin operation takes: a write takes all, a read those that are not pinned (R119,
R120). -/
def State.takenBy (s : State) (isWrite : Bool) (r : RegionIx) (b : BinIx) (e : Entry) : Bool :=
  e.isOf r b && (isWrite || !s.pinned e)

/-- The counter of a bin operation with the entries that it takes; a read forwards the pinned ones (R119, R144). -/
def State.binCounter (s : State) (isWrite : Bool) (r : RegionIx) (b : BinIx) : CounterOp :=
  s.capture r b (s.entries.filter (s.takenBy isWrite r b))
    (if isWrite then [] else s.entries.filter fun e => e.isOf r b && s.pinned e)

/-- A bin operation that fails a check ends at its grant, and one that passes begins on its counter (R119, R120). -/
def State.binGranted (s : State) (t : Ticket) (r : RegionIx) (b : BinIx) (isWrite : Bool)
    (op : CounterOp → ArrayOp) : Out :=
  (s.binCheck r b isWrite).elim
    (beginOn (s.binCounter isWrite r b) (op (s.binCounter isWrite r b))
      ((s.pointing .sweep).withdraw (s.takenBy isWrite r b)))
    fun e => .next ((s.pointing .sweep).binFails t e)

theorem exec_binRead_of_granted (h : s.quiet) (hg : s.nextGrant = some (.member .binAccess))
    (hu : s.binUnit = .read t r b) : exec .binRead s = s.binGranted t r b false (.binRead t) := by
  have reading : (s.pointing .sweep).binUnit = .read t r b := hu
  have check : (s.pointing .sweep).binCheck r b false = s.binCheck r b false := rfl
  refine (execBinRead.eq_1 s).trans ((grantTo_of_granted _ _ h hg).trans ?_)
  simp only [Member.following, reading, check, State.binGranted, State.binCounter]
  cases s.binCheck r b false with
  | some e => rfl
  | none => rfl

theorem exec_binWrite_of_granted (h : s.quiet) (hg : s.nextGrant = some (.member .binAccess))
    (hu : s.binUnit = .write t r b v) : exec .binWrite s = s.binGranted t r b true fun c => .binWrite t c v := by
  have writing : (s.pointing .sweep).binUnit = .write t r b v := hu
  have check : (s.pointing .sweep).binCheck r b true = s.binCheck r b true := rfl
  have all : s.takenBy true r b = fun e => e.isOf r b := funext fun e => Bool.and_true _
  refine (execBinWrite.eq_1 s).trans ((grantTo_of_granted _ _ h hg).trans ?_)
  simp only [Member.following, writing, check, State.binGranted, State.binCounter, all]
  cases s.binCheck r b true with
  | some e => rfl
  | none => rfl

end

/-- Settles O34: both rows are one granted bin operation, by the first check that fails and, with none, by the counter's
last word. -/
theorem binOperationsTakeTheirBin : Obligations.BinOperationsTakeTheirBin := by
  intro s w t r b v isWrite row failing mine held c op hq hg hrow hfailing hmine hheld hc hw
  subst hw
  have fails (e : Result) : failing e ↔ s.binCheck r b isWrite = some e :=
    (hfailing e).trans (State.binCheck_eq_some_iff isWrite e).symm
  obtain rfl : mine = s.takenBy isWrite r b := by
    funext e
    rw [Bool.eq_iff_iff, hmine, ← s.pinned_iff]
    simp [State.takenBy, Entry.isOf_iff, and_assoc]
  obtain rfl : held = fun e => e.isOf r b && s.pinned e := by
    funext e
    rw [Bool.eq_iff_iff, hheld, ← s.pinned_iff]
    simp [Entry.isOf_iff, and_assoc]
  obtain ⟨opOf, hop, granted⟩ : ∃ opOf : CounterOp → ArrayOp, op = opOf c
      ∧ exec row s = s.binGranted t r b isWrite opOf := by
    rcases hrow with ⟨rfl, hu, rfl, rfl⟩ | ⟨rfl, hu, rfl, rfl⟩
    · exact ⟨_, rfl, exec_binRead_of_granted hq hg hu⟩
    · exact ⟨fun c => .binWrite t c v, rfl, exec_binWrite_of_granted hq hg hu⟩
  obtain rfl : c = s.binCounter isWrite r b := hc
  have begins (hn : ∀ e, ¬ failing e) : exec row s = beginOn (s.binCounter isWrite r b) op
      ((s.pointing .sweep).withdraw (s.takenBy isWrite r b)) := by
    have passes : s.binCheck r b isWrite = none := Option.eq_none_iff_forall_ne_some.2 fun e he => hn e ((fails e).2 he)
    rw [granted, State.binGranted, passes, hop]
    rfl
  refine ⟨fun e he => ?_, fun hn => (beginOn_spec (begins hn)).1, fun hn => (beginOn_spec (begins hn)).2⟩
  rw [granted, State.binGranted, (fails e).1 he]
  rfl

end Sys2Proof.Machine
end

section
/-! SUPPORT. The start of a sweep and the terminal record of a cancelled one by their own rows (R118, R130, R131, R136,
R138). -/

namespace Sys2Proof.Machine

section
variable (s : State)

theorem State.sweepStart_of_queued {w : Sweep} {rest : List Sweep} (hs : s.sweeps = w :: rest)
    (hw : w.state = .queued) :
    s.sweepStart = { s with
      sweeps := { w with state := if s.readout.length < 64 then .running else .stalled } :: rest
      entries := s.entries.map fun e =>
        if w.isConsistent = true ∧ e.region = w.region then { e with isSealed := true, post := false } else e } := by
  simp only [State.sweepStart, hs, hw, if_true]
  cases w.isConsistent with
  | true =>
    simp only [if_true, true_and]
    rfl
  | false =>
    simp only [Bool.false_eq_true, if_false, false_and, List.map_id']
    rfl

theorem State.startDue_eq_false (h : ∀ w rest, s.sweeps = w :: rest → w.state ≠ .queued) : s.startDue = false := by
  unfold State.startDue
  split
  · rfl
  · exact decide_eq_false (h _ _ ‹_›)

theorem State.stepInProgress_eq_false_iff : s.stepInProgress = false ↔ ∀ c, s.array.op ≠ some (.sweepStep c) := by
  unfold State.stepInProgress
  split
  · simp_all
  · simpa using ‹_›

/-- The terminal record is due for a CLOSING head sweep with no step of it in progress and a slot free (R136). -/
theorem State.terminalDue_iff :
    s.terminalDue = true ↔ (∃ w rest, s.sweeps = w :: rest ∧ w.state = .closing)
      ∧ (∀ c, s.array.op ≠ some (.sweepStep c)) ∧ s.readout.length < 64 := by
  rw [← s.stepInProgress_eq_false_iff, ← show Config.readoutSlots = 64 from rfl]
  cases hs : s.sweeps with
  | nil => simp [State.terminalDue, hs]
  | cons w rest => simp [State.terminalDue, hs, and_assoc]

end

/-- Settles O41: each row is its outstanding step, and the step changes nothing where it is not due. -/
theorem sweepsStartAndClose : Obligations.SweepsStartAndClose := by
  intro s held
  have starts : exec .sweepStart s = .next s.sweepStart := takeOutstanding_of_not_held s State.sweepStart held
  have closes : exec .terminalRecord s = .next s.terminalRecord :=
    takeOutstanding_of_not_held s State.terminalRecord held
  refine ⟨fun w rest hs hw => ?_, fun hn => ?_, fun closing hclosing => ⟨fun w rest hc hs => ?_, fun hn => ?_⟩⟩
  · rw [starts, s.sweepStart_of_queued hs hw]
  · rw [starts, s.sweepStart_of_not_due (s.startDue_eq_false hn)]
  · obtain ⟨v, others, hv, -, he⟩ := s.terminalRecord_of_due (s.terminalDue_iff.2 (hclosing.1 hc))
    obtain ⟨rfl, rfl⟩ := List.cons.inj (hs.symm.trans hv)
    rw [closes, he]
    rfl
  · rw [closes, s.terminalRecord_of_not_due (Bool.eq_false_iff.2 fun hd => hn (hclosing.2 (s.terminalDue_iff.1 hd)))]

end Sys2Proof.Machine
end

section
/-! SUPPORT. The words of the array under every step (R142, R148, R153): what leaves them as they are, what an operation's
completion writes, and that the canonical form is kept row by row. -/

namespace Sys2Proof.Machine

section
variable {s t u : State}

/-! ### Steps that leave the words as they are -/

theorem State.words_of_storage (h : t.storage = s.storage) : t.array.words = s.array.words :=
  congrArg CounterArray.words (State.storage_array h)

/-- The registration of a marker changes the withdrawn entries' wait sets alone of the array (R121, R122). -/
theorem State.markRecord_words (s : State) : s.markRecord.array.words = s.array.words := by
  have handled (t : State) : t.laneHandled.array.words = t.array.words := State.words_of_storage t.laneHandled_storage
  rcases s.markRecord_cases with ⟨_, _, _, -, -, -, -, he⟩ | ⟨-, he⟩ <;> rw [he]
  exact handled _

theorem State.takeHeads_words (s : State) : s.takeHeads.array.words = s.array.words := by
  have heads (n : Nat) (t : State) : (t.headRecords n).array.words = t.array.words := by
    induction n generalizing t with
    | zero => rfl
    | succ n ih =>
      unfold State.headRecords
      split
      · have own : t.padRecord.reservedRecord.array.words = t.array.words := State.words_of_storage (by simp)
        exact (ih _).trans ((State.markRecord_words _).trans own)
      · rfl
  exact heads _ s

theorem State.lingerTick_words (s : State) : s.lingerTick.array.words = s.array.words := by
  unfold State.lingerTick
  split <;> rfl

theorem State.sweepStart_words (s : State) : s.sweepStart.array.words = s.array.words := by
  unfold State.sweepStart
  split
  · rfl
  · split <;> rfl

theorem State.settle_words (s : State) : s.settle.array.words = s.array.words := by
  have reported (t : State) : t.endOfInitialisation.stallReport.array.words = t.array.words :=
    State.words_of_storage (by simp)
  have timed (t : State) : t.refreshDue.seekRepeat.trainTimeout.array.words = t.array.words :=
    State.words_of_storage (by simp)
  calc s.settle.array.words
    _ = s.beforeSweepStart.sweepStart.array.words := State.words_of_storage (State.terminalRecord_storage _)
    _ = s.beforeSweepStart.array.words := State.sweepStart_words _
    _ = s.takeHeads.endOfInitialisation.stallReport.lingerTick.array.words := timed _
    _ = s.takeHeads.endOfInitialisation.stallReport.array.words := State.lingerTick_words _
    _ = s.takeHeads.array.words := reported _
    _ = s.array.words := s.takeHeads_words

theorem State.lclkEdges_words (s : State) (samples : List LaneSample) :
    (s.lclkEdges samples).array.words = s.array.words := by
  unfold State.lclkEdges
  induction samples generalizing s with
  | nil => rfl
  | cons x samples ih =>
    exact (ih _).trans ((State.words_of_storage (State.lclkEdge_storage _ x)).trans s.settle_words)

theorem State.finishOp_words (s : State) (departed : Bool) : (s.finishOp departed).array.words = s.array.words := by
  rw [State.finishOp_array]

theorem State.endOp_of_idle (h : s.array.op = none) : s.endOp = s := by rw [State.endOp, ← h]

/-- With the array idle a region command acts as it would at the end of an operation (R80). -/
theorem State.actionMoment_words (h : s.array.op = none) : s.beforeAction.actionMoment.array.words = s.array.words := by
  have ended := s.finishOp_words false
  rwa [State.finishOp, State.endOp_of_idle h] at ended

theorem State.takeRegionCommand_words (s : State) (a : RegionCommand) :
    (s.takeRegionCommand a).array.words = s.array.words := by
  unfold State.takeRegionCommand
  dsimp only
  split
  · rfl
  · exact State.actionMoment_words (s := { s with regionController := .awaiting a })
      (Option.not_isSome_iff_eq_none.1 ‹_›)

/-- Of the writes ECC_INJECT alone reaches the array, and arms a mode there (R152). -/
theorem State.writeRegister_words (s : State) (v : Word) (r : Register) :
    (s.writeRegister v r).array.words = s.array.words := by
  cases r with
  | laneControl =>
    simp only [State.writeRegister, State.writeLaneControl]
    split
    · exact State.words_of_storage (State.laneReset_storage _)
    · split <;> rfl
  | _ => rfl

/-- No commit writes a word; a soft reset keeps the words (R15, R170). -/
theorem State.commit_words (s : State) (c : Commit) : (s.commit c).array.words = s.array.words := by
  cases c with
  | writeRegister r v => exact s.writeRegister_words v r
  | takeReadout n =>
    rw [State.commit, State.resumeSweep_eq]
  | wake =>
    simp only [State.commit, State.wakeUp]
    split <;> rfl
  | softReset =>
    have logged (e : Event) : (s.softCleared.log e).array.words = s.softCleared.array.words :=
      State.words_of_storage (State.log_storage _ e)
    exact logged _
  | nothing | post | submit | takeCompletion | takeEvent | arm => rfl

/-! ### What an operation writes -/

/-- A reading operation stores counter data, marks the counter, or leaves every word (R149 to R152). -/
theorem State.readCounter_wordsCanonical (h : s.wordsCanonical) (c : CounterOp) (k : ReadKind) :
    (s.readCounter c k).wordsCanonical := by
  have accessed : ((s.readReports c k).accessCounter c).wordsCanonical := by
    rwa [State.wordsCanonical, State.accessCounter_words, State.readReports_words]
  by_cases stores : c.storesFor k
  · rw [State.wordsCanonical, s.readCounter_words_of_stores c k stores]
    exact State.storeCounter_wf _ c _ accessed
  · cases poisoned : c.poisoned with
    | true =>
      rw [State.wordsCanonical, s.readCounter_words_of_poisoned c k stores poisoned]
      exact State.markCounter_wf _ c accessed
    | false => rwa [State.wordsCanonical, s.readCounter_words_of_readable c k stores poisoned]

theorem State.storeAccessed_wordsCanonical (h : s.wordsCanonical) (c : CounterOp) (bits : BitVec 64) :
    ((s.accessCounter c).storeCounter c bits).wordsCanonical :=
  State.storeCounter_wf _ c bits (by rwa [State.wordsCanonical, State.accessCounter_words])

theorem State.filled_words (s : State) : s.filled.array.words = s.array.words := by
  unfold State.filled
  split
  · split <;> rfl
  all_goals rfl

/-! ### The frames of the rows -/

/-- If the command ends in a next state, the words are canonical there where they were so before. -/
def OutKeepsCanonical (s : State) (o : Out) : Prop := ∀ t, o = .next t → s.wordsCanonical → t.wordsCanonical

theorem OutKeepsCanonical.next (h : s.wordsCanonical → t.wordsCanonical) : OutKeepsCanonical s (.next t) := by
  rintro _ ⟨⟩
  exact h

theorem OutKeepsCanonical.same (h : t.array.words = s.array.words) : OutKeepsCanonical s (.next t) :=
  .next fun canonical => by rwa [State.wordsCanonical, h]

theorem OutKeepsCanonical.of_storage (h : t.storage = s.storage) : OutKeepsCanonical s (.next t) :=
  .same (State.words_of_storage h)

/-- The end of an operation writes no word, whatever passes and acts there (R80, R111, R144). -/
theorem OutKeepsCanonical.finishOp (departed : Bool) (h : s.wordsCanonical → u.wordsCanonical) :
    OutKeepsCanonical s (.next (u.finishOp departed)) :=
  .next fun canonical => by
    rw [State.wordsCanonical, State.finishOp_words]
    exact h canonical

theorem takeStep_keepsCanonical (s : State) {f : State → Out} (hf : ∀ t, OutKeepsCanonical t (f t)) :
    OutKeepsCanonical s (takeStep s f) := by
  unfold takeStep
  split
  · exact .same rfl
  · exact fun t ht canonical => hf _ t ht (by rwa [State.wordsCanonical, State.settle_words])

theorem takeOutstanding_keepsCanonical (s : State) {f : State → State} (hf : (f s).array.words = s.array.words) :
    OutKeepsCanonical s (takeOutstanding s f) := by
  unfold takeOutstanding
  split
  · exact .same rfl
  · exact .same hf

theorem dispatch_keepsCanonical (s : State) (kind : CommandKind) {take : QueuedCommand → State → State}
    (ht : ∀ (c : QueuedCommand) (t : State), (take c t).array.words = t.array.words) :
    OutKeepsCanonical s (dispatch kind take s) :=
  takeStep_keepsCanonical s fun t => by
    split
    · exact .same rfl
    · exact .same (ht _ t.dequeued)

/-- A grant moves the arbiter's pointer and writes no word (R145). -/
theorem grantTo_keepsCanonical (s : State) (m : Member) {f : State → State → Out}
    (hf : ∀ t u : State, u.array.words = t.array.words → OutKeepsCanonical t (f t u)) :
    OutKeepsCanonical s (grantTo m f s) :=
  takeStep_keepsCanonical s fun t => by
    split
    · exact hf t _ rfl
    · exact .same rfl

theorem beginOn_keepsCanonical (c : CounterOp) (op : ArrayOp) (h : u.array.words = t.array.words) :
    OutKeepsCanonical t (beginOn c op u) := by
  unfold beginOn
  split
  · exact .same h
  · exact fun _ hn => nomatch hn

/-! ### The Host Port -/

theorem request_keepsCanonical (s : State) (op : Opcode) (body : List Byte) (crc : Byte) (own : State → Decision) :
    OutKeepsCanonical s (request op body crc own s) :=
  takeStep_keepsCanonical s fun t => by
    split
    · exact .of_storage (t.respond_storage _ _)
    · exact .same rfl

theorem exec_keepsCanonical_of_requestOf (s : State) {c : Instr} {op : Opcode} {body : List Byte} {crc : Byte}
    (hc : requestOf c = some (op, body, crc)) : OutKeepsCanonical s (exec c s) := by
  obtain ⟨own, hx⟩ := exec_of_requestOf c op body crc hc
  rw [hx]
  exact request_keepsCanonical s _ _ _ _

theorem execPostUpdates_keepsCanonical (records : List UpdateRecord) (crc : Byte) :
    OutKeepsCanonical s (execPostUpdates records crc s) := by
  unfold execPostUpdates
  split
  · exact request_keepsCanonical s _ _ _ _
  · refine takeStep_keepsCanonical s fun t => ?_
    split
    · exact .of_storage (t.enterSink_storage _ _)
    · exact .same rfl

theorem execCleanEnd_keepsCanonical : OutKeepsCanonical s (execCleanEnd s) :=
  takeStep_keepsCanonical s fun t => by
    split
    · exact .same (t.commit_words _)
    all_goals exact .same rfl

theorem execEarlyEnd_keepsCanonical (op : Opcode) : OutKeepsCanonical s (execEarlyEnd op s) :=
  takeStep_keepsCanonical s fun t => by
    have reported (o : Byte) : OutKeepsCanonical t (.next ((t.hostError o 1#8).endTransaction true false)) :=
      .of_storage (t.hostError_storage o 1#8)
    split
    · exact reported _
    · exact reported _
    · split
      · exact .same rfl
      · exact reported _
    all_goals exact .same rfl

theorem execSink_keepsCanonical (cause : SinkCause) : OutKeepsCanonical s (execSink cause s) :=
  takeStep_keepsCanonical s fun t => by
    have entered (b reason : Byte) : OutKeepsCanonical t (.next (t.enterSink b reason)) :=
      .of_storage (t.enterSink_storage b reason)
    split
    · split
      · split
        · exact .same rfl
        · exact entered _ _
      · split
        · exact .same rfl
        · exact entered _ _
    · exact .same rfl

theorem execSselNFall_keepsCanonical (sckHigh : Bool) : OutKeepsCanonical s (execSselNFall sckHigh s) :=
  takeStep_keepsCanonical s fun t => by
    split <;> exact .same rfl

theorem execSinkEnd_keepsCanonical : OutKeepsCanonical s (execSinkEnd s) :=
  takeStep_keepsCanonical s fun t => by
    split <;> exact .same rfl

theorem execIgnoredLowPeriod_keepsCanonical : OutKeepsCanonical s (execIgnoredLowPeriod s) :=
  takeStep_keepsCanonical s fun t => by
    split <;> exact .same rfl

/-! ### Dispatch and grants (R35, R144, R145) -/

theorem execReadBin_keepsCanonical : OutKeepsCanonical s (execReadBin s) := dispatch_keepsCanonical s _ fun _ _ => rfl

theorem execWriteBin_keepsCanonical : OutKeepsCanonical s (execWriteBin s) := dispatch_keepsCanonical s _ fun _ _ => rfl

theorem execCancelSweep_keepsCanonical : OutKeepsCanonical s (execCancelSweep s) :=
  dispatch_keepsCanonical s _ fun _ _ => rfl

theorem execFence_keepsCanonical : OutKeepsCanonical s (execFence s) := dispatch_keepsCanonical s _ fun _ _ => rfl

theorem execSweep_keepsCanonical : OutKeepsCanonical s (execSweep s) :=
  dispatch_keepsCanonical s _ fun c t => by
    dsimp only
    split <;> rfl

theorem execRetain_keepsCanonical : OutKeepsCanonical s (execRetain s) :=
  dispatch_keepsCanonical s _ fun c t => by
    split <;> rfl

theorem execCommit_keepsCanonical : OutKeepsCanonical s (execCommit s) :=
  grantTo_keepsCanonical s _ fun t u hu => by
    dsimp only
    split
    · exact .same rfl
    · exact beginOn_keepsCanonical _ _ hu

theorem execBinRead_keepsCanonical : OutKeepsCanonical s (execBinRead s) :=
  grantTo_keepsCanonical s _ fun t u hu => by
    dsimp only
    split
    · split
      · exact .same hu
      · exact beginOn_keepsCanonical _ _ hu
    · exact .same rfl

theorem execBinWrite_keepsCanonical : OutKeepsCanonical s (execBinWrite s) :=
  grantTo_keepsCanonical s _ fun t u hu => by
    dsimp only
    split
    · split
      · exact .same hu
      · exact beginOn_keepsCanonical _ _ hu
    · exact .same rfl

theorem execSweepStep_keepsCanonical : OutKeepsCanonical s (execSweepStep s) :=
  grantTo_keepsCanonical s _ fun t u hu => by
    dsimp only
    split
    · exact .same rfl
    · exact beginOn_keepsCanonical _ _ hu

theorem execInitStep_keepsCanonical : OutKeepsCanonical s (execInitStep s) :=
  grantTo_keepsCanonical s _ fun t u hu => by
    dsimp only
    split
    · exact beginOn_keepsCanonical _ _ hu
    · exact .same rfl

theorem execRefresh_keepsCanonical : OutKeepsCanonical s (execRefresh s) :=
  takeStep_keepsCanonical s fun t => by
    split <;> exact .same rfl

theorem execPoisonFill_keepsCanonical : OutKeepsCanonical s (execPoisonFill s) :=
  takeStep_keepsCanonical s fun t => by
    split
    · split <;> exact .same rfl
    · exact .same rfl

/-! ### Completions of operations -/

theorem execCommitCompletion_keepsCanonical : OutKeepsCanonical s (execCommitCompletion s) :=
  takeStep_keepsCanonical s fun t => by
    split
    · exact .finishOp _ fun canonical => State.readCounter_wordsCanonical canonical _ .commit
    · exact .same rfl

theorem execBinReadCompletion_keepsCanonical : OutKeepsCanonical s (execBinReadCompletion s) :=
  takeStep_keepsCanonical s fun t => by
    split
    · exact .finishOp _ fun canonical => State.readCounter_wordsCanonical canonical _ .binRead
    · exact .same rfl

theorem execBinWriteCompletion_keepsCanonical : OutKeepsCanonical s (execBinWriteCompletion s) :=
  takeStep_keepsCanonical s fun t => by
    split
    · exact .finishOp _ fun canonical => State.storeAccessed_wordsCanonical canonical _ _
    · exact .same rfl

theorem execSweepStepCompletion_keepsCanonical : OutKeepsCanonical s (execSweepStepCompletion s) :=
  takeStep_keepsCanonical s fun t => by
    split
    · exact .finishOp _ fun canonical => State.readCounter_wordsCanonical canonical _ _
    · exact .same rfl

theorem execInitStepCompletion_keepsCanonical : OutKeepsCanonical s (execInitStepCompletion s) :=
  takeStep_keepsCanonical s fun t => by
    split
    · refine .finishOp _ fun canonical => ?_
      rw [State.wordsCanonical, State.filled_words]
      exact State.storeAccessed_wordsCanonical canonical _ _
    · exact .same rfl

theorem execRefreshCompletion_keepsCanonical : OutKeepsCanonical s (execRefreshCompletion s) :=
  takeStep_keepsCanonical s fun t => by
    split
    · exact .finishOp _ fun canonical => canonical
    · exact .same rfl

/-- The fill of a row unlists its words (R153). -/
theorem execPoisonFillCompletion_keepsCanonical : OutKeepsCanonical s (execPoisonFillCompletion s) :=
  takeStep_keepsCanonical s fun t => by
    split
    · refine .finishOp _ fun canonical => ?_
      split
      · exact Memory.poisonRow_wf _ _ canonical
      · exact Memory.poisonRow_wf _ _ canonical
    · exact .same rfl

/-! ### Completion records, RETAIN, the return channel and the release of a reset -/

theorem execCompletionPost_keepsCanonical : OutKeepsCanonical s (execCompletionPost s) :=
  takeStep_keepsCanonical s fun t => by
    have posted (p : Producer) : (t.postFrom p).array.words = t.array.words := by cases p <;> rfl
    split
    · split
      · exact .same (posted _)
      · exact .same rfl
    · exact .same rfl

/-- Entry into RETAIN closes the banks and begins the self-refresh, which keeps the words (R167). -/
theorem execEnterRetain_keepsCanonical : OutKeepsCanonical s (execEnterRetain s) :=
  takeStep_keepsCanonical s fun t => by
    split
    · split <;> exact .same rfl
    all_goals exact .same rfl

theorem execReturnMessage_keepsCanonical : OutKeepsCanonical s (execReturnMessage s) :=
  takeStep_keepsCanonical s fun t => by
    split <;> exact .same rfl

theorem execResetRelease_keepsCanonical : OutKeepsCanonical s (execResetRelease s) := by
  unfold execResetRelease
  split <;> exact .same rfl

/-! ### Every step -/

/-- Every command keeps the canonical form: only the completions of operations write words, and each by single writes or by
the fill of a row. -/
theorem exec_keepsCanonical (c : Instr) : OutKeepsCanonical s (exec c s) := by
  cases c with
  | status | regRead | regWrite | submit | takeCompletion | takeReadout | takeEvent | wake | softReset | trimUp
  | trimDown | laneReset | laneEnable | alertClear | eventStatus | statisticsCounterClear | regionStatus | clearCount
  | eccInject => exact exec_keepsCanonical_of_requestOf s rfl
  | postUpdates records crc => exact execPostUpdates_keepsCanonical records crc
  | cleanEnd => exact execCleanEnd_keepsCanonical
  | earlyEnd op => exact execEarlyEnd_keepsCanonical op
  | sink cause => exact execSink_keepsCanonical cause
  | sselNFall sckHigh => exact execSselNFall_keepsCanonical sckHigh
  | sinkEnd => exact execSinkEnd_keepsCanonical
  | ignoredLowPeriod => exact execIgnoredLowPeriod_keepsCanonical
  | define | init | adopt | retire => exact dispatch_keepsCanonical s _ fun c t => t.takeRegionCommand_words _
  | readBin => exact execReadBin_keepsCanonical
  | writeBin => exact execWriteBin_keepsCanonical
  | cancelSweep => exact execCancelSweep_keepsCanonical
  | fence => exact execFence_keepsCanonical
  | sweep => exact execSweep_keepsCanonical
  | retain => exact execRetain_keepsCanonical
  | updateAcceptance =>
    exact takeStep_keepsCanonical s fun t => .same (congrArg CounterArray.words (t.offers_array _ _))
  | commit => exact execCommit_keepsCanonical
  | commitCompletion => exact execCommitCompletion_keepsCanonical
  | binRead => exact execBinRead_keepsCanonical
  | binReadCompletion => exact execBinReadCompletion_keepsCanonical
  | binWrite => exact execBinWrite_keepsCanonical
  | binWriteCompletion => exact execBinWriteCompletion_keepsCanonical
  | sweepStep => exact execSweepStep_keepsCanonical
  | sweepStepCompletion => exact execSweepStepCompletion_keepsCanonical
  | initStep => exact execInitStep_keepsCanonical
  | initStepCompletion => exact execInitStepCompletion_keepsCanonical
  | refresh => exact execRefresh_keepsCanonical
  | refreshCompletion => exact execRefreshCompletion_keepsCanonical
  | poisonFill => exact execPoisonFill_keepsCanonical
  | poisonFillCompletion => exact execPoisonFillCompletion_keepsCanonical
  | completionPost => exact execCompletionPost_keepsCanonical
  | enterRetain => exact execEnterRetain_keepsCanonical
  | dataFrame samples | trainingFrame samples =>
    exact takeStep_keepsCanonical s fun t => .same (t.lclkEdges_words samples)
  | returnMessage => exact execReturnMessage_keepsCanonical
  | timebaseTick => exact takeStep_keepsCanonical s fun t => .of_storage t.tick_storage
  | powerOnReset | pinReset => exact .same rfl
  | resetRelease => exact execResetRelease_keepsCanonical
  | markerRegistration => exact takeOutstanding_keepsCanonical s s.markRecord_words
  | lingerTick => exact takeOutstanding_keepsCanonical s s.lingerTick_words
  | sweepStart => exact takeOutstanding_keepsCanonical s s.sweepStart_words
  | terminalRecord => exact takeOutstanding_keepsCanonical s (State.words_of_storage s.terminalRecord_storage)
  | refreshDue => exact takeOutstanding_keepsCanonical s (State.words_of_storage s.refreshDue_storage)
  | seekRetrainRepeat => exact takeOutstanding_keepsCanonical s (State.words_of_storage s.seekRepeat_storage)
  | trainTimeout => exact takeOutstanding_keepsCanonical s (State.words_of_storage s.trainTimeout_storage)
  | laneStall => exact takeOutstanding_keepsCanonical s (State.words_of_storage s.stallReport_storage)
  | endOfInitialisation =>
    exact takeOutstanding_keepsCanonical s (State.words_of_storage s.endOfInitialisation_storage)
  | reservedRecord => exact takeOutstanding_keepsCanonical s (State.words_of_storage s.reservedRecord_storage)
  | padRecord => exact takeOutstanding_keepsCanonical s (State.words_of_storage s.padRecord_storage)

end

theorem step_keepsCanonical (s : State) : OutKeepsCanonical s (step s) := by
  unfold step
  split
  · exact .same rfl
  · rename_i c rest _
    exact exec_keepsCanonical (s := { s with pending := rest }) c

/-- Settles O55: a step is the front command on the state with the queue's rest, only the completions of operations write
words, and each of their writes keeps the form. -/
theorem stepsKeepTheWordsCanonical : Obligations.StepsKeepTheWordsCanonical := fun s t canonical hstep =>
  step_keepsCanonical s t hstep canonical

end Sys2Proof.Machine
end

section
/-! SUPPORT. The completions of REFRESH and POISON_FILL (R146, R147, R153, R165), with no region command waiting. -/

namespace Sys2Proof.Machine

section
variable {s : State}

/-- The fill once the words of a row index hold the marker: the next row index is requested, or the fill has ended with its
obligation cleared (R153, R165). -/
def Power.rowFilled (p : Power) (row : Nat) : Power :=
  if row < 4095 then { p with fillRow := some (row + 1) }
  else { p with fillRow := none, fillObligation := false, initEnd := some true }

/-- The addresses of a row index are 512 in a row (R142). -/
theorem div_wordsPerRow_eq_iff (x row : Nat) :
    x / Config.wordsPerRow = row ↔ 512 * row ≤ x ∧ x ≤ 512 * row + 511 := by
  rw [show Config.wordsPerRow = 512 from rfl]
  omega

theorem exec_refreshCompletion (h : s.quiet) (idle : ∀ a, s.regionController ≠ .awaiting a)
    (ho : s.array.op = some .refresh) :
    exec .refreshCompletion s = .next (State.endOp { s with
      array := { s.array with banks := closedBanks }
      refreshTimer := { s.refreshTimer with debt := s.refreshTimer.debt - 1 } }) := by
  rw [show exec .refreshCompletion s = execRefreshCompletion s from rfl, execRefreshCompletion,
    takeStep_of_quiet s _ h, ho]
  exact congrArg Host.Outcome.next (State.finishOp_plain _ false (fun hd => absurd hd Bool.false_ne_true) idle)

theorem exec_poisonFillCompletion (h : s.quiet) (idle : ∀ a, s.regionController ≠ .awaiting a) {row : Nat}
    (ho : s.array.op = some (.poisonFill row)) :
    exec .poisonFillCompletion s = .next (State.endOp { s with
      array := { s.array with words := s.array.words.poisonRow row, banks := closedBanks }
      power := s.power.rowFilled row }) := by
  have ends (t : State) (ht : t.regionController = s.regionController) : t.finishOp false = t.endOp :=
    State.finishOp_plain t false (fun hd => absurd hd Bool.false_ne_true) (ht ▸ idle)
  rw [show exec .poisonFillCompletion s = execPoisonFillCompletion s from rfl, execPoisonFillCompletion,
    takeStep_of_quiet s _ h, ho]
  by_cases more : row < 4095
  · rw [Power.rowFilled, if_pos more]
    simp only [show Config.lastRow = 4095 from rfl, if_pos more]
    exact congrArg Host.Outcome.next (ends _ rfl)
  · rw [Power.rowFilled, if_neg more]
    simp only [show Config.lastRow = 4095 from rfl, if_neg more]
    exact congrArg Host.Outcome.next (ends _ rfl)

end

/-- Settles O39: both operations end with nothing waiting, and the fill's words are those of its row index. -/
theorem refreshAndFillComplete : Obligations.RefreshAndFillComplete := by
  intro s hq idle
  refine ⟨fun ho => exec_refreshCompletion hq idle ho, fun row ho => ?_⟩
  refine ⟨_, exec_poisonFillCompletion hq idle ho, rfl, fun x => ?_⟩
  have read := Memory.read_poisonRow s.array.words row x
  simp only [div_wordsPerRow_eq_iff] at read
  exact read

end Sys2Proof.Machine
end

section
/-! SUPPORT. Where a word lies: bank, column and row of an address, and of the counters of a region (R78, R142), and what one
access counts and opens (R143). -/

namespace Sys2Proof.Machine

/-! ### Bank, column and row (R142) -/

theorem rowOf_toNat {a : Nat} (h : a < 2097152) : (rowOf a).toNat = a / 512 := by
  rw [rowOf, BitVec.toNat_ofNat]
  omega

theorem columnOf_toNat (a : Nat) : (columnOf a).toNat = a / 8 % 64 := by
  rw [columnOf, BitVec.toNat_ofNat]
  omega

/-- The address of a bank, a column and a row. -/
def wordAt (bank : Fin 8) (column : BitVec 6) (row : BitVec 12) : Nat := 512 * row.toNat + 8 * column.toNat + bank.val

theorem wordAt_lt (bank : Fin 8) (column : BitVec 6) (row : BitVec 12) : wordAt bank column row < 2097152 := by
  have := bank.isLt
  have := column.isLt
  have := row.isLt
  unfold wordAt
  omega

theorem bankOf_wordAt (bank : Fin 8) (column : BitVec 6) (row : BitVec 12) : bankOf (wordAt bank column row) = bank := by
  have := bank.isLt
  refine Fin.ext ?_
  simp only [bankOf, wordAt]
  omega

theorem columnOf_wordAt (bank : Fin 8) (column : BitVec 6) (row : BitVec 12) :
    columnOf (wordAt bank column row) = column := by
  have := bank.isLt
  have := column.isLt
  refine BitVec.eq_of_toNat_eq ?_
  rw [columnOf_toNat, wordAt]
  omega

theorem rowOf_wordAt (bank : Fin 8) (column : BitVec 6) (row : BitVec 12) : rowOf (wordAt bank column row) = row := by
  have := bank.isLt
  have := column.isLt
  refine BitVec.eq_of_toNat_eq ?_
  rw [rowOf_toNat (wordAt_lt bank column row), wordAt]
  omega

/-- Bank, column and row of a word of the array give its address back. -/
theorem wordAt_of {a : Nat} (h : a < 2097152) : wordAt (bankOf a) (columnOf a) (rowOf a) = a := by
  rw [wordAt, rowOf_toNat h, columnOf_toNat, show (bankOf a).val = a % 8 from rfl]
  omega

/-! ### Counters (R78, R142) -/

/-- From a word in bank 0 to 6, the next word lies in the next bank, in the same row and column. -/
theorem next_word {a : Nat} (h : a % 8 < 7) :
    (bankOf (a + 1)).val = a % 8 + 1 ∧ rowOf (a + 1) = rowOf a ∧ columnOf (a + 1) = columnOf a := by
  have row : (a + 1) / 512 = a / 512 := by omega
  have column : (a + 1) / 8 = a / 8 := by omega
  refine ⟨?_, congrArg (BitVec.ofNat 12) row, congrArg (fun n => BitVec.ofNat 6 (n % 64)) column⟩
  simp only [bankOf]
  omega

theorem counterAddress_narrow {d : Descriptor} (hw : d.format.wide = false) (b : BinIx) :
    counterAddress d b = d.base.toNat + b.toNat := by
  simp [counterAddress, Format.words, hw]

theorem counterAddress_wide {d : Descriptor} (hw : d.format.wide = true) (b : BinIx) :
    counterAddress d b = d.base.toNat + 2 * b.toNat := by
  simp [counterAddress, Format.words, hw]

/-- The banks of a region's counters: bin 0 in bank 0, and the others in order over the banks, two for each bin of a 64-bit
region. -/
theorem counter_banks {d : Descriptor} (hd : d.base.toNat % 8 = 0) (b : BinIx) :
    (b = 0#16 → counterAddress d b % 8 = 0)
      ∧ (d.format.wide = false → counterAddress d b % 8 = b.toNat % 8)
      ∧ (d.format.wide = true → counterAddress d b % 8 = 2 * (b.toNat % 4)) := by
  refine ⟨fun hb => ?_, fun hw => ?_, fun hw => ?_⟩
  · subst hb
    exact hd
  · rw [counterAddress_narrow hw]
    omega
  · rw [counterAddress_wide hw]
    omega

/-! ### One access (R143) -/

/-- One access counts a row hit or a row miss. -/
theorem State.access_stats (s : State) (a : Nat) {hit : Bool}
    (h : hit = true ↔ s.array.banks[bankOf a] = some (rowOf a)) :
    (s.access a).stats = { s.stats with
      rowHits := if hit then satInc s.stats.rowHits else s.stats.rowHits
      rowMisses := if hit then s.stats.rowMisses else satInc s.stats.rowMisses } := by
  have counted : (s.access a).stats = statCount s.stats (if hit then .rowHits else .rowMisses) := by
    simp only [State.access, State.count, h]
  rw [counted]
  cases hit <;> rfl

/-- The bank of the word is OPEN on its row. -/
theorem State.access_bank (s : State) (a : Nat) : (s.access a).array.banks[bankOf a] = some (rowOf a) :=
  Vector.getElem_set_self _

theorem State.access_other_bank (s : State) (a : Nat) {b : Fin 8} (h : b ≠ bankOf a) :
    (s.access a).array.banks[b] = s.array.banks[b] :=
  Vector.getElem_set_ne (bankOf a).isLt b.isLt fun hv => h (Fin.ext hv.symm)

/-- Settles O40: the access by its banks and counters, the place of a word by its address read digit by digit, and the reads
after a write of a word. -/
theorem wordsBanksAndAddresses : Obligations.WordsBanksAndAddresses := by
  refine ⟨fun s a _ hit hhit => ?_, fun a ha => ⟨rfl, columnOf_toNat a, rowOf_toNat ha⟩,
    fun a b ha hb bank column row => ?_, fun bank column row => ?_, fun d b a hd ha _ => ?_, fun m a b x hm => ?_⟩
  · exact ⟨_, rfl, rfl, s.access_stats a hhit, s.access_bank a, fun b hb => s.access_other_bank a hb⟩
  · rw [← wordAt_of ha, ← wordAt_of hb, bank, column, row]
  · exact ⟨wordAt bank column row, wordAt_lt _ _ _, bankOf_wordAt _ _ _, columnOf_wordAt _ _ _, rowOf_wordAt _ _ _⟩
  · subst ha
    obtain ⟨first, narrow, wide⟩ := counter_banks hd b
    refine ⟨first, narrow, fun hw => ⟨wide hw, ?_⟩⟩
    have low := wide hw
    rw [← low]
    exact next_word (by omega)
  · split
    · rename_i same
      rw [same, Memory.read_write_self m a x hm]
    · exact Memory.read_write_other m a b x hm ‹_›

end Sys2Proof.Machine
end

section
/-! SUPPORT. The writes that clear: which bits of ALERT_RAW are causes that stick and which follow the queues (R155, R156),
and what a cleared statistics counter leaves of the others (R3). -/

namespace Sys2Proof.Machine

/-! ### The bits of ALERT_RAW (R155) -/

/-- The level causes lie in bits 0 to 2. -/
theorem levelCauses_getLsbD_of_le (s : State) (k : Nat) (h : 3 ≤ k) : (levelCauses s).getLsbD k = false := by
  have past0 : ¬ k < 1 := by omega
  have past1 : ¬ k - 1 < 1 := by omega
  have past2 : ¬ k - 1 - 1 < 1 := by omega
  simp only [levelCauses, BitVec.getLsbD_append, past0, past1, past2, if_false, BitVec.getLsbD_zero]

/-- A bit of ALERT_RAW is a level cause below bit 3, and a sticky cause from there on. -/
theorem alertRaw_getLsbD (s : State) (k : Fin 12) :
    (alertRaw s).getLsbD k = if k.val < 3 then (levelCauses s).getLsbD k else s.alerts.sticky.getLsbD k := by
  have sticks : (0xFF8#12).getLsbD k = !decide (k.val < 3) := by
    revert k
    decide
  rw [alertRaw, BitVec.getLsbD_or, BitVec.getLsbD_and, sticks]
  by_cases level : k.val < 3
  · simp [level]
  · rw [levelCauses_getLsbD_of_le s k (Nat.le_of_not_lt level), if_neg level]
    simp only [level, decide_false, Bool.not_false, Bool.and_true, Bool.false_or]

/-- ALERT_CLEAR takes away a cause that sticks where its bit is written as 1, and no level cause (R156). -/
theorem alertRaw_writeRegister_alertClear (s : State) (value : Word) (k : Fin 12) :
    (alertRaw (s.writeRegister value .alertClear)).getLsbD k
      = ((alertRaw s).getLsbD k && (decide (k.val < 3) || !value.getLsbD k)) := by
  have levels : levelCauses (s.writeRegister value .alertClear) = levelCauses s := rfl
  have sticky : (s.writeRegister value .alertClear).alerts.sticky
      = s.alerts.sticky &&& ~~~(value.extractLsb' 0 12) := rfl
  rw [alertRaw_getLsbD, alertRaw_getLsbD, levels, sticky]
  by_cases level : k.val < 3 <;> simp [level]

/-! ### The statistics counters (R3) -/

theorem registerOf_statIndex (n : StatCounter) : registerOf (statIndex n) = some (.counter n) := by cases n <;> rfl

/-- Each counter is its own field: clearing one leaves the values of the others. -/
theorem statValue_statClear (st : Stats) (n m : StatCounter) :
    statValue (statClear st n) m = if m = n then 0#32 else statValue st m := by
  cases n <;> cases m <;> rfl

/-! ### The clearing writes (R22) -/

/-- A row that is a write of one register, whose checks the value passes, commits that write. -/
theorem State.carriesOut_registerWrite {s : State} {c : Instr} {index : Byte} {r : Register} {value : Word} {crc : Byte}
    (hw : s.writable) (h : s.receives c) (hq : requestOf c = some (.regWrite, index :: wordBytes value, crc))
    (hx : exec c s = registerWrite index value crc s) (hr : registerOf index = some r)
    (ha : writeAccepted value r = true) :
    s.carriesOut c .regWrite { code := .accept, body := [], commit := .writeRegister r value }
      (s.writeRegister value r).endedClean :=
  State.carriesOut_of_own (own := fun _ => writeDecision index value) h hq hx
    (powerRefusal_of_writable s .regWrite hw (by decide) (by decide))
    (by simp [writeDecision, hr, ha, accept]) (by decide)

/-- Settles O20: each row is the write of one register, and the bits of ALERT_RAW and the counters are read off after
it. -/
theorem clearingWritesClearTheirOwn : Obligations.ClearingWritesClearTheirOwn := by
  unfold Obligations.ClearingWritesClearTheirOwn
  intro value crc s hw
  refine ⟨fun h => ⟨_, rfl, ?_, alertRaw_writeRegister_alertClear s value⟩, fun h => ?_,
    fun n h => ⟨(s.writeRegister value (.counter n)).endedClean, rfl, ?_, statValue_statClear s.stats n⟩⟩
  · exact State.carriesOut_registerWrite (r := .alertClear) hw h rfl rfl rfl rfl
  · exact State.carriesOut_registerWrite (r := .eventStatus) hw h rfl rfl rfl rfl
  · exact State.carriesOut_registerWrite (r := .counter n) hw h rfl rfl (registerOf_statIndex n) rfl

end Sys2Proof.Machine
end

section
/-! SUPPORT. The reset rows and the state after reset (R165, R171): that state is a power-on reset just released, it has
every invariant, and its registers read as in the table of section 11.1. -/

namespace Sys2Proof.Machine

/-! ### Reset and release (R165) -/

section
variable {s : State}

theorem exec_resetRelease_of_held (h : s.power.held = true) :
    exec .resetRelease s = .next { s with
      power := { s.power with held := false, fillRow := if s.power.fillObligation then some 0 else none } } :=
  if_pos h

theorem exec_resetRelease_of_not_held (h : s.power.held = false) : exec .resetRelease s = .next s :=
  if_neg (Bool.eq_false_iff.1 h)

end

/-- Settles O50: both resets hold the part at the values of the table, and differ in the fill obligation alone. -/
theorem resetsGiveTheResetTable : Obligations.ResetsGiveTheResetTable := by
  intro s
  refine ⟨fun row obligation hrow => ?_, exec_resetRelease_of_held, exec_resetRelease_of_not_held⟩
  obtain ⟨rfl, rfl⟩ | ⟨rfl, rfl⟩ := hrow
  · exact show execPowerOnReset s = .next (s.inReset true) from rfl
  · exact show execPinReset s = .next (s.inReset s.power.fillObligation) from rfl

/-! ### The state after reset -/

/-- Releasing a power-on reset leads to the state after reset, if no word of the array is listed (log entries 5, 7). -/
theorem State.reset_released : execResetRelease (State.reset.inReset true) = .next State.reset := rfl

theorem State.reset_fits : State.reset.Fits :=
  execResetRelease_fits (State.inReset_fits _ true) _ State.reset_released

/-- The release moves nothing: regions, entries, sweeps and fills are those of the reset. -/
theorem State.reset_sound : State.reset.places.Sound := State.reset.inReset_sound true

theorem State.reset_quiet : State.reset.quiet := ⟨rfl, rfl⟩

theorem State.reset_region (r : RegionIx) : State.reset.region r = .blank := Vector.getElem_replicate r.isLt

/-! ### The registers after reset (section 11.1) -/

/-- The reset value of each register, by the table of section 11.1. -/
def Register.resetValue : Register → Word
  | .deviceId => 0x6D081601#32
  | .timebase => 32#32
  | .mergeControl => 0x00100408#32
  | .refreshControl => 7#32
  | .readoutControl => 16#32
  | .holdLimit => 1000#32
  | .laneControl => 0x00000482#32
  | .laneStatus => 0x00000080#32
  | .alertEnable => 0xFFF#32
  | .powerStatus | .tickCount | .counter _ | .alertRaw | .alertClear | .eventStatus | .arrayStatus | .eccInject
  | .regionStatus _ | .regionDescA _ | .regionDescB _ | .mergeStatus | .queueStatus => 0#32

theorem readRegister_reset (r : Register) : readRegister State.reset r = r.resetValue := by
  cases r with
  | regionStatus n | regionDescA n | regionDescB n =>
    rw [readRegister, State.reset_region]
    rfl
  | counter c => cases c <;> rfl
  | _ => rfl

/-- Settles O60: the invariants, then the reset table block by block (R171), and the registers by theirs. -/
theorem resetStateIsAsTabled : Obligations.ResetStateIsAsTabled := by
  rintro s rfl
  have reads := readRegister_reset
  refine ⟨State.reset_quiet, State.reset.withinCapacity_iff.2 State.reset_fits, reset_words, .nil, nofun,
    State.reset.placed_iff.2 State.reset_sound, ?_⟩
  -- the Power Manager, the Region Table and the Host Port
  refine ⟨rfl, rfl, rfl, State.reset_region, rfl, rfl, rfl, ?_⟩
  -- the array, the refresh and the counts of the Merge Buffer and of the readout
  refine ⟨rfl, rfl, rfl, rfl, rfl, rfl, rfl, rfl, rfl, ?_⟩
  -- the units, the barriers, the markers and the park slots
  refine ⟨rfl, rfl, rfl, rfl, rfl, rfl, rfl, rfl, rfl, ?_⟩
  -- the lane and the alerts
  refine ⟨rfl, rfl, rfl, rfl, rfl, rfl, rfl, rfl, ?_⟩
  -- the queues, and LRET
  refine ⟨rfl, rfl, rfl, rfl, rfl, rfl, rfl, rfl, rfl, rfl, ?registers⟩
  case registers =>
    exact ⟨reads .deviceId, reads .timebase, reads .mergeControl, reads .refreshControl, reads .readoutControl,
      reads .holdLimit, reads .tickCount, reads .laneControl, reads .laneStatus, reads .alertEnable, reads .alertRaw,
      reads .alertClear, reads .eventStatus, reads .arrayStatus, reads .eccInject, reads .mergeStatus,
      reads .queueStatus, fun n => ⟨reads (.regionStatus n), reads (.regionDescA n), reads (.regionDescB n)⟩,
      fun c => reads (.counter c), fun _ => rfl⟩

end Sys2Proof.Machine
end

section
/-! SUPPORT. RETAIN: the conditions of its entry (R167), what the entry leaves of the lane (R73), and the clean end of a
WAKE (R29, R169). -/

namespace Sys2Proof.Machine

section
variable {s : State}

/-! ### Entry (R167) -/

theorem Transaction.decided_eq_false_iff (tx : Transaction) : tx.decided = false ↔ ∀ op d, tx ≠ .response op d := by
  cases tx <;> simp [Transaction.decided]

theorem State.occupancy_eq_zero_iff (s : State) : s.occupancy = 0 ↔ s.entries = [] ∧ s.withdrawn = [] := by
  rw [State.occupancy, Nat.add_eq_zero_iff, List.length_eq_zero_iff, List.length_eq_zero_iff]

/-- The nine conditions of R167, and that no earlier producer has a completion ready (R46). -/
theorem State.mayRetain_iff (s : State) : s.mayRetain = true ↔
    s.power.state = .quiescing ∧ s.lane.buffer = [] ∧ s.hostFifo = [] ∧ s.lane.parked = false
      ∧ s.hostParked = false ∧ s.entries = [] ∧ s.withdrawn = [] ∧ s.markers.slot0 = none
      ∧ s.markers.slot1 = none ∧ s.array.op = none ∧ s.refreshTimer.debt = 0 ∧ s.completions.length < 8
      ∧ s.nextProducer = none ∧ ∀ op d, s.host.tx ≠ .response op d := by
  simp only [State.mayRetain, Bool.and_eq_true, Bool.not_eq_true', decide_eq_true_eq, List.isEmpty_iff,
    Option.isNone_iff_eq_none, s.occupancy_eq_zero_iff, Transaction.decided_eq_false_iff, and_assoc]
  rfl

theorem exec_enterRetain_of_quiescing {t : Ticket} (h : s.quiet) (hr : s.retain = .quiescing t) :
    exec .enterRetain s = if s.mayRetain then .next (s.enterRetain t) else .next s := by
  change execEnterRetain s = _
  rw [execEnterRetain, takeStep_of_quiet s _ h]
  simp only [hr]

/-- The lane in RETAIN is OFF, with nothing to send, no training, no stall and no error (R73). -/
theorem Lane.atRetain_eq (l : Lane) : l.atRetain = { l with
    state := .off, returnQueue := [], training := .none, seekTimer := 0, trainTimer := 0
    stallCount := 0, stallReported := false, errors := 0#4, wire := .high } := rfl

/-! ### WAKE (R29, R169) -/

theorem State.wakeUp_of_retain (h : s.power.state = .retain) : s.wakeUp = State.raise { s with
    power := { s.power with state := .run }
    refreshTimer := { s.refreshTimer with debt := 0, divider := 0 }
    array := { s.array with selfRefresh := false }
    lane := if s.laneControl.enable then s.lane.enterSeek else s.lane
    retain := .none } .power := if_pos h

theorem State.wakeUp_of_not_retain (h : s.power.state ≠ .retain) : s.wakeUp = s := if_neg h

/-- In a power state that admits it a WAKE is accepted, and its clean end wakes the part. -/
theorem State.carriesOut_wake {crc : Byte} (h : s.receives (.wake crc))
    (hp : powerRefusal s.power.state .wake = none) :
    s.carriesOut (.wake crc) .wake { code := .accept, body := [], commit := .wake } s.wakeUp.endedClean :=
  State.carriesOut_of_own (own := fun _ => accept [] .wake) h rfl rfl hp rfl (by decide)

end

/-- Settles O51: the entry waits for its conditions, and the clean end of a WAKE is read off in RETAIN and in RUN. -/
theorem retainIsEnteredAndLeft : Obligations.RetainIsEnteredAndLeft := by
  refine ⟨fun s ticket conditions hq hr hc => ?entry, fun crc s h => ⟨fun hp => ?leaves, fun hp => ?stays⟩⟩
  case entry =>
    rw [← State.mayRetain_iff] at hc
    rw [exec_enterRetain_of_quiescing hq hr, hc, ← Lane.atRetain_eq]
    exact ⟨fun may => if_pos may, fun mayNot => if_neg mayNot⟩
  case leaves =>
    have carries := State.carriesOut_wake h (by rw [hp]; rfl)
    rwa [State.wakeUp_of_retain hp, Lane.enterSeek_eq] at carries
  case stays =>
    have carries := State.carriesOut_wake h (by rw [hp]; rfl)
    rwa [State.wakeUp_of_not_retain (by rw [hp]; decide)] at carries

end Sys2Proof.Machine
end

section
/-! SUPPORT. What the registers show: a field of a register that is put together from fields (sections 11.2 and 11.3), the
fields of each status register, the bits of ALERT_RAW (R155), and what one cause adds to them and to the statistics
counters (R3). -/

namespace Sys2Proof.Machine

/-! ### A field of a register that is put together from fields -/

theorem field_eq {w : Nat} (v : BitVec w) (p : Nat) : field v p = v.setWidth 32 <<< p := rfl

theorem field_getLsbD {w : Nat} (v : BitVec w) (p i : Nat) (hi : i < 32) :
    (field v p).getLsbD i = (decide (p ≤ i) && v.getLsbD (i - p)) := by
  simp only [field_eq, BitVec.getLsbD_shiftLeft, BitVec.getLsbD_setWidth, hi, show i - p < 32 by omega, decide_true,
    Bool.true_and, ← Nat.not_lt, decide_not]

@[simp] theorem fieldOf_word (v : Word) : fieldOf v 0 32 = v.toNat := congrArg BitVec.toNat BitVec.extractLsb'_eq_self

@[simp] theorem fieldOf_or (u v : Word) (p w : Nat) : fieldOf (u ||| v) p w = fieldOf u p w ||| fieldOf v p w := by
  simp only [fieldOf, BitVec.extractLsb'_or, BitVec.toNat_or]

theorem fieldOf_bit_eq_one (v : Word) (k : Nat) : fieldOf v k 1 = 1 ↔ v.getLsbD k = true := by
  have shown : fieldOf v k 1 = (v.getLsbD k).toNat := by
    rw [fieldOf, ← BitVec.toNat_ofBool]
    refine congrArg BitVec.toNat (BitVec.eq_of_getLsbD_eq fun i hi => ?_)
    obtain rfl : i = 0 := by omega
    rw [BitVec.getLsbD_extractLsb', BitVec.getLsbD_ofBool]
    simp
  rw [shown, Bool.toNat_eq_one]

@[simp] theorem fieldOf_field_same {w : Nat} (v : BitVec w) (p : Nat) (h : p + w ≤ 32) :
    fieldOf (field v p) p w = v.toNat := by
  refine congrArg BitVec.toNat (BitVec.eq_of_getLsbD_eq fun i hi => ?_)
  rw [BitVec.getLsbD_extractLsb', field_getLsbD v p _ (by omega), Nat.add_sub_cancel_left]
  simp [hi]

@[simp] theorem fieldOf_field_apart {m : Nat} (v : BitVec m) (p q w : Nat) (hq : q + w ≤ 32)
    (h : q + w ≤ p ∨ p + m ≤ q) : fieldOf (field v p) q w = 0 := by
  refine (congrArg BitVec.toNat (BitVec.eq_of_getLsbD_eq (y := 0#w) fun i hi => ?_)).trans BitVec.toNat_zero
  rw [BitVec.getLsbD_extractLsb', field_getLsbD v p _ (by omega), BitVec.getLsbD_zero]
  obtain below | above := h
  · simp [show ¬ p ≤ q + i by omega]
  · simp [v.getLsbD_of_ge (q + i - p) (by omega)]

@[simp] theorem fieldOf_flag_same (b : Bool) (p : Nat) (h : p < 32) : fieldOf (flag b p) p 1 = b.toNat := by
  rw [flag, fieldOf_field_same _ p h, BitVec.toNat_ofBool]

@[simp] theorem fieldOf_flag_apart (b : Bool) (p q w : Nat) (hq : q + w ≤ 32) (h : q + w ≤ p ∨ p + 1 ≤ q) :
    fieldOf (flag b p) q w = 0 := fieldOf_field_apart _ p q w hq h

/-- A count that fits `w` bits is a field of that width. -/
theorem countField_eq_field (w : Nat) {n : Nat} (h : n < 2 ^ w) (p : Nat) (hw : w ≤ 32 := by decide) :
    countField n p = field (BitVec.ofNat w n) p := by
  rw [countField, field_eq, BitVec.setWidth_ofNat_of_le_of_lt hw h]

/-- A value alone at bit 0 is the register. -/
theorem field_zero_toNat {w : Nat} (v : BitVec w) (h : w ≤ 32) : (field v 0).toNat = v.toNat := by
  rw [field_eq, BitVec.shiftLeft_zero, BitVec.toNat_setWidth_of_le h]

/-! ### The status registers (section 11.3) -/

section
variable {s : State}

theorem deviceId_fields : fieldOf Config.deviceId 24 8 = 0x6D ∧ fieldOf Config.deviceId 8 16 = 0x0816
    ∧ fieldOf Config.deviceId 0 8 = 0x01 := by decide

/-- LANE_STATUS: state, trim, fill of the buffer, expected SEQ, consecutive errors. -/
theorem readLaneStatus_fields {l : Lane} (h : l.Fits) :
    fieldOf (readLaneStatus l) 0 3 = (laneStateCode l.state).toNat
      ∧ fieldOf (readLaneStatus l) 4 4 = (if l.state = .train then l.training.trim else l.trimInUse).toNat
      ∧ fieldOf (readLaneStatus l) 8 3 = l.buffer.length
      ∧ fieldOf (readLaneStatus l) 16 8 = l.expectedSeq.toNat
      ∧ fieldOf (readLaneStatus l) 24 4 = l.errors.toNat := by
  have frames : l.buffer.length < 8 := Nat.lt_of_le_of_lt h.buffer (by decide)
  rw [readLaneStatus, countField_eq_field 3 frames]
  simp (disch := decide) [frames]

/-- ARRAY_STATUS: refresh debt and open banks. -/
theorem readArrayStatus_fields (h : s.Fits) :
    fieldOf (readArrayStatus s) 0 3 = s.refreshTimer.debt
      ∧ fieldOf (readArrayStatus s) 8 4 = (s.array.banks.toList.filter Option.isSome).length := by
  have debt : s.refreshTimer.debt < 8 := Nat.lt_of_le_of_lt h.debt (by decide)
  have banks : openBanks s.array < 16 :=
    Nat.lt_of_le_of_lt (List.countP_le_length.trans_eq s.array.banks.length_toList) (by decide)
  rw [← List.countP_eq_length_filter, ← openBanks, readArrayStatus, countField_eq_field 3 debt,
    countField_eq_field 4 banks]
  simp (disch := decide) [debt, banks]

theorem Markers.busy_eq (m : Markers) :
    m.busy = (if m.slot0 = none then 0 else 1) + (if m.slot1 = none then 0 else 1) := by
  unfold Markers.busy
  cases m.slot0 <;> cases m.slot1 <;> rfl

/-- MERGE_STATUS: the slots in use, the entries of the list by their state, the park slots, the busy marker slots
(R109). -/
theorem readMergeStatus_fields (h : s.Fits) :
    fieldOf (readMergeStatus s) 0 5 = s.occupancy
      ∧ fieldOf (readMergeStatus s) 5 5 = s.entries.countP (fun e => !e.isSealed)
      ∧ fieldOf (readMergeStatus s) 10 5 = s.entries.countP Entry.isSealed
      ∧ fieldOf (readMergeStatus s) 15 5 = s.entries.countP s.pinned
      ∧ (fieldOf (readMergeStatus s) 20 1 = 1 ↔ s.lane.parked = true)
      ∧ (fieldOf (readMergeStatus s) 21 1 = 1 ↔ s.hostParked = true)
      ∧ fieldOf (readMergeStatus s) 22 2 = s.markers.busy := by
  have slots : s.occupancy < 32 := Nat.lt_of_le_of_lt h.occupancy (by decide)
  have counts (p : Entry → Bool) : s.entries.countP p < 32 :=
    Nat.lt_of_le_of_lt (List.countP_le_length.trans (Nat.le_add_right _ _)) slots
  have busy : s.markers.busy < 4 := by
    rw [Markers.busy_eq]
    split <;> split <;> decide
  rw [readMergeStatus, countField_eq_field 5 slots, countField_eq_field 5 (counts _), countField_eq_field 5 (counts _),
    countField_eq_field 5 (counts _), countField_eq_field 2 busy]
  simp (disch := decide) [slots, counts, busy]

/-- QUEUE_STATUS: the fill of the queues, the state of the head sweep, and whether the head command is marked (R31, R33,
R127). -/
theorem readQueueStatus_fields (h : s.Fits) :
    fieldOf (readQueueStatus s) 0 4 = s.commands.length
      ∧ fieldOf (readQueueStatus s) 4 4 = s.completions.length
      ∧ fieldOf (readQueueStatus s) 8 7 = s.readout.length
      ∧ fieldOf (readQueueStatus s) 16 5 = s.hostFifo.length
      ∧ fieldOf (readQueueStatus s) 24 3 = s.sweeps.length
      ∧ fieldOf (readQueueStatus s) 28 3 = (s.sweeps.head?.elim 0#3 fun w => sweepStateCode w.state).toNat
      ∧ (fieldOf (readQueueStatus s) 31 1 = 1 ↔ ∃ c rest, s.commands = c :: rest ∧ 0 < c.mark) := by
  have commands : s.commands.length < 16 := Nat.lt_of_le_of_lt h.commands (by decide)
  have completions : s.completions.length < 16 := Nat.lt_of_le_of_lt h.completions (by decide)
  have readout : s.readout.length < 128 := Nat.lt_of_le_of_lt h.readout (by decide)
  have hostFifo : s.hostFifo.length < 32 := Nat.lt_of_le_of_lt h.hostFifo (by decide)
  have sweeps : s.sweeps.length < 8 := Nat.lt_of_le_of_lt h.sweeps (by decide)
  have marked : (s.commands.head?.elim false fun c => 0 < c.mark) = true
      ↔ ∃ c rest, s.commands = c :: rest ∧ 0 < c.mark := by
    cases s.commands <;> simp
  rw [readQueueStatus, countField_eq_field 4 commands, countField_eq_field 4 completions,
    countField_eq_field 7 readout, countField_eq_field 5 hostFifo, countField_eq_field 3 sweeps]
  simp (disch := decide) [commands, completions, readout, hostFifo, sweeps, marked]

/-- EVENT_STATUS: the fill of the Event Log and the LOST count (R158). -/
theorem readEventStatus_fields (h : s.Fits) :
    fieldOf (readEventStatus s) 0 4 = s.eventLog.length ∧ fieldOf (readEventStatus s) 8 8 = s.lost.toNat := by
  have events : s.eventLog.length < 16 := Nat.lt_of_le_of_lt h.eventLog (by decide)
  rw [readEventStatus, countField_eq_field 4 events]
  simp (disch := decide) [events]

/-- REGION_STATUS: state, the four flags, CLEAR_COUNT as 0, REJECT_COUNT (R76). -/
theorem readRegionStatus_fields (r : Region) :
    fieldOf (readRegionStatus r) 0 2 = (regionStateCode r.state).toNat
      ∧ (fieldOf (readRegionStatus r) 4 1 = 1 ↔ r.satSeen = true)
      ∧ (fieldOf (readRegionStatus r) 5 1 = 1 ↔ r.wrapSeen = true)
      ∧ (fieldOf (readRegionStatus r) 6 1 = 1 ↔ r.poisonSeen = true)
      ∧ (fieldOf (readRegionStatus r) 7 1 = 1 ↔ r.rejectSeen = true)
      ∧ fieldOf (readRegionStatus r) 8 1 = 0 ∧ fieldOf (readRegionStatus r) 16 16 = r.rejectCount.toNat := by
  simp (disch := decide) [readRegionStatus]

/-- REGION_DESC_A: BASE, FORMAT and OPERATOR (R77). -/
theorem readDescA_fields (d : Descriptor) :
    fieldOf (readDescA d) 0 21 = d.base.toNat ∧ fieldOf (readDescA d) 24 2 = (formatCode d.format).toNat
      ∧ fieldOf (readDescA d) 28 3 = (operatorCode d.operator).toNat := by
  simp (disch := decide) [readDescA]

/-- REGION_DESC_B: the other fields of the descriptor (R77). -/
theorem readDescB_fields (d : Descriptor) :
    fieldOf (readDescB d) 0 16 = d.binsMinus1.toNat ∧ fieldOf (readDescB d) 16 4 = d.decayShift.toNat
      ∧ fieldOf (readDescB d) 20 2 = (roundingCode d.rounding).toNat
      ∧ fieldOf (readDescB d) 24 3 = d.inputShift.toNat
      ∧ (fieldOf (readDescB d) 28 1 = 1 ↔ d.laneOk = true) ∧ (fieldOf (readDescB d) 29 1 = 1 ↔ d.hostOk = true) := by
  simp (disch := decide) [readDescB]

end

/-! ### ALERT_RAW and the causes (R155, R157) -/

section
variable (s : State)

theorem readoutLevel_iff :
    readoutLevel s = true ↔ s.readoutWatermark.toNat ≤ s.readout.length ∨ ∃ r ∈ s.readout, r.last = true := by
  rw [readoutLevel, Bool.or_eq_true, decide_eq_true_eq, List.any_eq_true]

/-- The level causes are the completions, the READOUT level and the events, in bits 0 to 2. -/
theorem levelCauses_getLsbD : (levelCauses s).getLsbD 0 = !s.completions.isEmpty
    ∧ (levelCauses s).getLsbD 1 = readoutLevel s ∧ (levelCauses s).getLsbD 2 = !s.eventLog.isEmpty := by
  unfold levelCauses
  cases s.completions.isEmpty <;> cases readoutLevel s <;> cases s.eventLog.isEmpty <;> decide

theorem fieldOf_alertRaw_eq_one (k : Nat) (hk : k < 12) :
    fieldOf (readRegister s .alertRaw) k 1 = 1 ↔ (alertRaw s).getLsbD k = true := by
  rw [fieldOf_bit_eq_one, readRegister, field_getLsbD _ 0 k (by omega), Nat.sub_zero]
  simp

/-- Below bit 3 the register shows the level causes, and from there to bit 11 the causes that stick. -/
theorem readAlertRaw_fields :
    (fieldOf (readRegister s .alertRaw) 0 1 = 1 ↔ s.completions ≠ [])
      ∧ (fieldOf (readRegister s .alertRaw) 1 1 = 1
          ↔ s.readoutWatermark.toNat ≤ s.readout.length ∨ ∃ r ∈ s.readout, r.last = true)
      ∧ (fieldOf (readRegister s .alertRaw) 2 1 = 1 ↔ s.eventLog ≠ [])
      ∧ (∀ k, 3 ≤ k → k < 12 → (fieldOf (readRegister s .alertRaw) k 1 = 1 ↔ s.alerts.sticky.getLsbD k = true))
      ∧ fieldOf (readRegister s .alertRaw) 12 20 = 0 := by
  obtain ⟨completions, readout, events⟩ := levelCauses_getLsbD s
  have level (k : Nat) (hk : k < 3) :
      fieldOf (readRegister s .alertRaw) k 1 = 1 ↔ (levelCauses s).getLsbD k = true := by
    rw [fieldOf_alertRaw_eq_one s k (by omega), alertRaw_getLsbD s ⟨k, by omega⟩, if_pos hk]
  refine ⟨?_, ?_, ?_, fun k low high => ?_, fieldOf_field_apart _ 0 12 20 (by decide) (by decide)⟩
  · rw [level 0 (by decide), completions, Bool.not_eq_true', List.isEmpty_eq_false_iff]
  · rw [level 1 (by decide), readout, readoutLevel_iff]
  · rw [level 2 (by decide), events, Bool.not_eq_true', List.isEmpty_eq_false_iff]
  · rw [fieldOf_alertRaw_eq_one s k high, alertRaw_getLsbD s ⟨k, high⟩, if_neg (Nat.not_lt.2 low)]

/-- ALERT_N follows the register and the enables (R157). -/
theorem alertActive_iff_register : alertActive s = true
    ↔ ∃ k < 12, fieldOf (readRegister s .alertRaw) k 1 = 1 ∧ s.alerts.enable.getLsbD k = true := by
  rw [alertActive_iff]
  constructor
  · rintro ⟨k, raw, enabled⟩
    exact ⟨k, k.isLt, (fieldOf_alertRaw_eq_one s k k.isLt).2 raw, enabled⟩
  · rintro ⟨k, hk, raw, enabled⟩
    exact ⟨⟨k, hk⟩, (fieldOf_alertRaw_eq_one s k hk).1 raw, enabled⟩

/-- The bit of a cause that sticks (R155). -/
def AlertCause.index : AlertCause → Nat
  | .laneState => 3 | .laneError => 4 | .laneStall => 5 | .saturation => 6 | .integrity => 7
  | .corrected => 8 | .refresh => 9 | .hostError => 10 | .power => 11

theorem alertBit_getLsbD (c : AlertCause) (k : Nat) (hk : k < 12) : (alertBit c).getLsbD k = decide (k = c.index) := by
  have bits : ∀ i : Fin 12, (alertBit c).getLsbD i = decide (i.val = c.index) := by cases c <;> decide
  exact bits ⟨k, hk⟩

theorem State.raise_sticky_getLsbD (c : AlertCause) (k : Nat) (hk : k < 12) :
    (s.raise c).alerts.sticky.getLsbD k = true ↔ s.alerts.sticky.getLsbD k = true ∨ k = c.index := by
  rw [State.raise_alerts, BitVec.getLsbD_or, alertBit_getLsbD c k hk, Bool.or_eq_true, decide_eq_true_eq]

end

/-! ### The statistics counters (R3) -/

/-- The greatest value of a counter: ROW_HITS and ROW_MISSES have 32 bits, the others 16. -/
def counterMax (c : StatCounter) : Nat := if c = .rowHits ∨ c = .rowMisses then 4294967295 else 65535

/-- A counter of 16 bits reads as its value. -/
theorem half_setWidth_toNat (x : Half) : (x.setWidth 32).toNat = x.toNat := BitVec.toNat_setWidth_of_le (by decide)

theorem statValue_statCount_same (st : Stats) (c : StatCounter) :
    (statValue (statCount st c) c).toNat = min ((statValue st c).toNat + 1) (counterMax c) := by
  have half (x : Half) : ((satInc x).setWidth 32).toNat = min ((x.setWidth 32).toNat + 1) 65535 := by
    rw [half_setWidth_toNat, half_setWidth_toNat]
    exact satInc_toNat x
  cases c with
  | rowHits | rowMisses => exact satInc_toNat _
  | _ => exact half _

/-- Each counter is its own field: a cause of one leaves the values of the others. -/
theorem statValue_statCount (st : Stats) (c m : StatCounter) :
    statValue (statCount st c) m = if m = c then statValue (statCount st m) m else statValue st m := by
  cases c <;> cases m <;> rfl

theorem readRegister_count_counter (s : State) (c m : StatCounter) :
    (readRegister (s.count c) (.counter m)).toNat
      = if m = c then min (fieldOf (readRegister s (.counter m)) 0 32 + 1) (counterMax c)
        else fieldOf (readRegister s (.counter m)) 0 32 := by
  rw [fieldOf_word, readRegister, readRegister, State.count_stats, statValue_statCount]
  split
  · rename_i same
    rw [same, statValue_statCount_same]
  · rfl

/-- Settles O16, register by register; the sizes of the queues say that each count fits its field. -/
theorem statusRegistersShowTheirFields : Obligations.StatusRegistersShowTheirFields := by
  intro s bits n d capacity hbits hd
  obtain rfl : bits = fun r p w => fieldOf (readRegister s r) p w :=
    funext fun r => funext fun p => funext fun w => hbits r p w
  subst hd
  have fits := s.withinCapacity_iff.1 capacity
  refine ⟨deviceId_fields, ?power, fieldOf_word _, ?lane, readArrayStatus_fields fits, ?merge, ?queues,
    readEventStatus_fields fits, ?region, ?descA, ?descB, ?alerts, ?counters, readRegister_count_counter s⟩
  case power =>
    refine (fieldOf_field_same (powerStateCode s.power.state) 0 (by decide)).trans ?_
    cases s.power.state <;> rfl
  case lane =>
    obtain ⟨state, others⟩ := readLaneStatus_fields fits.lane
    refine ⟨state.trans ?_, others⟩
    cases s.lane.state <;> rfl
  case merge =>
    obtain ⟨slots, openCount, sealedCount, pinnedCount, laneParked, hostParked, busy⟩ := readMergeStatus_fields fits
    rw [List.countP_eq_length_filter] at openCount sealedCount
    refine ⟨slots, openCount, sealedCount, fun pinned hp => pinnedCount.trans ?_, laneParked, hostParked,
      busy.trans s.markers.busy_eq⟩
    obtain rfl : pinned = s.pinned := funext fun e => Bool.eq_iff_iff.2 ((hp e).trans (s.pinned_iff e).symm)
    exact List.countP_eq_length_filter
  case queues =>
    obtain ⟨commands, completions, readout, hostFifo, sweeps, head, marked⟩ := readQueueStatus_fields fits
    refine ⟨commands, completions, readout, hostFifo, sweeps, head.trans ?_, marked⟩
    cases s.sweeps with
    | nil => rfl
    | cons w rest =>
      simp only [List.head?_cons, Option.elim_some]
      cases w.state <;> rfl
  case region =>
    obtain ⟨state, flagsAndCount⟩ := readRegionStatus_fields (s.region n)
    refine ⟨state.trans ?_, flagsAndCount⟩
    cases (s.region n).state <;> rfl
  case descA =>
    obtain ⟨base, format, operator⟩ := readDescA_fields (s.region n).desc
    refine ⟨base, format.trans ?_, operator.trans ?_⟩
    · cases (s.region n).desc.format <;> rfl
    · cases (s.region n).desc.operator <;> rfl
  case descB =>
    obtain ⟨bins, decay, rounding, shiftAndPermits⟩ := readDescB_fields (s.region n).desc
    refine ⟨bins, decay, rounding.trans ?_, shiftAndPermits⟩
    cases (s.region n).desc.rounding <;> rfl
  case alerts =>
    obtain ⟨completions, readout, events, sticky, past⟩ := readAlertRaw_fields s
    have enable : fieldOf (readRegister s .alertEnable) 0 32 = s.alerts.enable.toNat :=
      (fieldOf_word _).trans (field_zero_toNat s.alerts.enable (by decide))
    refine ⟨completions, readout, events, sticky, past, enable, rfl, alertActive_iff_register s, fun c k hk => ?_⟩
    refine (s.raise_sticky_getLsbD c k hk).trans ?_
    cases c <;> rfl
  case counters =>
    intro c
    refine (fieldOf_word _).trans ?_
    cases c with
    | rowHits | rowMisses => rfl
    | _ => exact half_setWidth_toNat _

end Sys2Proof.Machine
end

section
/-! SUPPORT. Each operation over the state leaves the queue of waiting commands (log entry 8): the steps of an earlier
moment, the acceptance point, the region commands, the end of an operation, the lane, the registers, the commit and the
Completion Queue. -/

namespace Sys2Proof.Machine

section
variable (s : State)

/-! ### The head records and the steps of a tick (R2, R57, R122, R130, R136, R165) -/

@[simp] theorem State.credit_pending : s.credit.pending = s.pending := by
  unfold State.credit
  split <;> rfl

@[simp] theorem State.laneHandled_pending : s.laneHandled.pending = s.pending := by
  unfold State.laneHandled
  dsimp only
  split
  · exact State.credit_pending _
  · rfl

@[simp] theorem State.padRecord_pending : s.padRecord.pending = s.pending := by
  rcases s.padRecord_cases with ⟨_, _, -, -, he⟩ | he <;> simp [he]

@[simp] theorem State.reservedRecord_pending : s.reservedRecord.pending = s.pending := by
  rcases s.reservedRecord_cases with ⟨_, _, -, -, he⟩ | he <;> simp [he]

@[simp] theorem State.handleOwn_pending : s.handleOwn.pending = s.pending := by
  have records (n : Nat) (t : State) : (t.ownRecords n).pending = t.pending := by
    induction n generalizing t with
    | zero => rfl
    | succ n ih =>
      unfold State.ownRecords
      split
      · simp [ih]
      · rfl
  exact records _ s

@[simp] theorem State.markRecord_pending : s.markRecord.pending = s.pending := by
  rcases s.markRecord_cases with ⟨_, _, _, -, -, -, -, he⟩ | ⟨-, he⟩
  · simp [he, State.registerMarker]
  · rw [he]

@[simp] theorem State.takeHeads_pending : s.takeHeads.pending = s.pending := by
  have records (n : Nat) (t : State) : (t.headRecords n).pending = t.pending := by
    induction n generalizing t with
    | zero => rfl
    | succ n ih =>
      unfold State.headRecords
      split
      · simp [ih]
      · rfl
  exact records _ s

@[simp] theorem State.endOfInitialisation_pending : s.endOfInitialisation.pending = s.pending := by
  unfold State.endOfInitialisation
  split
  · rfl
  · simp

@[simp] theorem State.stallReport_pending : s.stallReport.pending = s.pending := by
  unfold State.stallReport
  split
  · rfl
  · simp

@[simp] theorem State.lingerTick_pending : s.lingerTick.pending = s.pending := by
  unfold State.lingerTick
  split <;> rfl

@[simp] theorem State.refreshDue_pending : s.refreshDue.pending = s.pending := by
  unfold State.refreshDue
  dsimp only
  split
  · split
    · rfl
    · simp
  · rfl

@[simp] theorem State.seekRepeat_pending : s.seekRepeat.pending = s.pending := by
  unfold State.seekRepeat
  split <;> rfl

@[simp] theorem State.trainTimeout_pending : s.trainTimeout.pending = s.pending := by
  unfold State.trainTimeout
  split <;> rfl

@[simp] theorem State.sweepStart_pending : s.sweepStart.pending = s.pending := by
  unfold State.sweepStart
  split
  · rfl
  · split <;> rfl

@[simp] theorem State.terminalRecord_pending : s.terminalRecord.pending = s.pending := by
  unfold State.terminalRecord
  split
  · rfl
  · split <;> rfl

@[simp] theorem State.settle_pending : s.settle.pending = s.pending := by
  simp [State.settle]

@[simp] theorem State.tick_pending : s.tick.pending = s.pending := by
  have counted (t : State) : t.lingerCount.refreshCount.laneCount.initCount.pending = t.pending := by
    rw [State.initCount_eq, State.laneCount_eq]
    rfl
  unfold State.tick
  split
  · rfl
  · rw [counted, State.stallTick_eq _ _ rfl]

/-! ### The acceptance point (R88 to R90, R110 to R112) -/

@[simp] theorem State.depart_pending (src : Source) : (s.depart src).pending = s.pending := by
  cases src with
  | lane => exact s.laneHandled_pending
  | host => rfl

@[simp] theorem State.park_pending (src : Source) : (s.park src).pending = s.pending := by
  cases src <;> rfl

@[simp] theorem State.reject_pending (src : Source) (r : HostRecord) (reason : Byte) :
    (s.reject src r reason).pending = s.pending := by
  unfold State.reject
  dsimp only
  split <;> simp

@[simp] theorem State.openEntry_pending (src : Source) (r : HostRecord) (v : Int) :
    (s.openEntry src r v).pending = s.pending := by
  unfold State.openEntry
  split <;> simp

@[simp] theorem State.place_pending (src : Source) (r : HostRecord) (v : Int) :
    (s.place src r v).pending = s.pending := by
  rcases s.place_cases src r v with ⟨_, -, -, he⟩ | ⟨-, he⟩ | ⟨_, -, -, he⟩ <;> simp [he]

@[simp] theorem State.offer_pending (src : Source) : (s.offer src).1.pending = s.pending := by
  rcases s.offer_cases src with ⟨-, he⟩ | ⟨_, _, -, -, he⟩ | ⟨_, -, -, he⟩ <;> simp [he]

@[simp] theorem State.round_pending (laneReady hostReady : Bool) :
    (s.round laneReady hostReady).state.pending = s.pending := by
  unfold State.round
  split
  · split <;> simp
  · split
    · simp
    · split <;> simp

@[simp] theorem State.offers_pending (laneReady hostReady : Bool) :
    (s.offers laneReady hostReady).pending = s.pending := by
  have rounds (n : Nat) : ∀ (t : State) (l h : Bool), (t.rounds l h n).pending = t.pending := by
    induction n with
    | zero => exact fun _ _ _ => rfl
    | succ n ih =>
      intro t l h
      have after : (if (t.round l h).laneRejected then (t.round l h).state.handleOwn
          else (t.round l h).state).pending = t.pending := by
        split <;> simp
      unfold State.rounds
      dsimp only
      split
      · exact (ih _ _ _).trans after
      · exact after
  exact rounds _ _ _ _

/-! ### The Region Controller (R80 to R86) and the operations of the array (R83, R111, R143, R148) -/

@[simp] theorem State.act_pending (a : RegionCommand) : (s.act a).pending = s.pending := by
  rw [State.act_frame]

@[simp] theorem State.beforeAction_pending : s.beforeAction.pending = s.pending := by
  unfold State.beforeAction State.passUnparked
  split
  · split
    · exact s.offers_pending _ _
    · rfl
  all_goals rfl

@[simp] theorem State.actionMoment_pending : s.actionMoment.pending = s.pending := by
  unfold State.actionMoment State.reofferParked
  split
  · simp
  all_goals rfl

@[simp] theorem State.takeRegionCommand_pending (a : RegionCommand) : (s.takeRegionCommand a).pending = s.pending := by
  unfold State.takeRegionCommand
  dsimp only
  split
  · rfl
  · simp

@[simp] theorem State.readCounter_pending (c : CounterOp) (k : ReadKind) : (s.readCounter c k).pending = s.pending := by
  rw [State.readCounter_frame]

@[simp] theorem State.storeAccessed_pending (c : CounterOp) (bits : BitVec 64) :
    ((s.accessCounter c).storeCounter c bits).pending = s.pending := by
  rw [State.storeAccessed_frame]

@[simp] theorem State.filled_pending : s.filled.pending = s.pending := by
  unfold State.filled
  split
  · split <;> rfl
  all_goals rfl

@[simp] theorem State.finishOp_pending (departed : Bool) : (s.finishOp departed).pending = s.pending := by
  have reoffered : s.endOp.reoffer.pending = s.pending := by
    unfold State.reoffer
    split
    · exact s.endOp.offers_pending _ _
    · rfl
  unfold State.finishOp
  dsimp only
  rw [State.actionMoment_pending]
  split
  · exact reoffered
  · simp

/-! ### The frames of the lane (R51, R60 to R70) and the lane reset (R72) -/

@[simp] theorem State.trainingFailed_pending : s.trainingFailed.pending = s.pending := State.log_pending _ _

@[simp] theorem State.trimJudged_pending : s.trimJudged.pending = s.pending := by
  unfold State.trimJudged
  dsimp only
  split
  · split
    · split
      · rfl
      · simp
    · rfl
  · split
    · simp
    · rfl

@[simp] theorem State.trainFrame_pending (f : Frame) : (s.trainFrame f).pending = s.pending := by
  unfold State.trainFrame
  dsimp only
  split
  · rfl
  · split
    · rfl
    · simp

@[simp] theorem State.frameDropped_pending : s.frameDropped.pending = s.pending := by
  unfold State.frameDropped
  dsimp only
  split <;> simp [State.laneEvent]

@[simp] theorem State.lockedFrame_pending (f : Frame) : (s.lockedFrame f).pending = s.pending := by
  have dropped (c : StatCounter) (e : Event) : ((s.count c).log e).frameDropped.pending = s.pending := by simp
  unfold State.lockedFrame
  split
  · exact State.log_pending _ _
  split
  · exact dropped _ _
  split
  · exact dropped _ _
  split
  · rfl
  split
  · exact dropped _ _
  split
  · rw [s.acceptFrame_eq _ f rfl]
    split <;> simp
  · exact dropped _ _

@[simp] theorem State.frameArrives_pending (f : Frame) : (s.frameArrives f).pending = s.pending := by
  unfold State.frameArrives State.seekFrame
  split
  · rfl
  · rfl
  · split <;> rfl
  · exact s.trainFrame_pending f
  · exact s.lockedFrame_pending f

@[simp] theorem State.lclkEdge_pending (x : LaneSample) : (s.lclkEdge x).pending = s.pending := by
  have sampled (t : State) : (t.samplePins x).pending = t.pending := by
    unfold State.samplePins
    split
    case h_3 => exact State.frameArrives_pending _ _
    all_goals rfl
  unfold State.lclkEdge
  dsimp only
  split
  · rfl
  · exact sampled _

@[simp] theorem State.lclkEdges_pending (samples : List LaneSample) : (s.lclkEdges samples).pending = s.pending := by
  unfold State.lclkEdges
  induction samples generalizing s with
  | nil => rfl
  | cons x samples ih => rw [List.foldl_cons, ih, State.lclkEdge_pending, State.settle_pending]

@[simp] theorem State.laneReset_pending : s.laneReset.pending = s.pending := by
  rw [State.laneReset_eq _ _ rfl]
  split <;> simp

/-! ### The Host Port (R13 to R18), the registers (R22, R174) and the Completion Queue (R46) -/

@[simp] theorem State.hostError_pending (opcode reason : Byte) : (s.hostError opcode reason).pending = s.pending := by
  simp [State.hostError]

@[simp] theorem State.respond_pending (op : Opcode) (d : Decision) : (s.respond op d).pending = s.pending := by
  unfold State.respond
  dsimp only
  split
  · simp
  · rfl

@[simp] theorem State.enterSink_pending (opcode reason : Byte) : (s.enterSink opcode reason).pending = s.pending :=
  State.hostError_pending _ _ _

@[simp] theorem State.writeRegister_pending (v : Word) (r : Register) : (s.writeRegister v r).pending = s.pending := by
  cases r with
  | laneControl =>
    simp only [State.writeRegister, State.writeLaneControl]
    split
    · simp
    · split <;> rfl
  | _ => rfl

@[simp] theorem State.softReset_pending : s.softReset.pending = s.pending := State.log_pending s.softCleared _

@[simp] theorem State.commit_pending (c : Commit) : (s.commit c).pending = s.pending := by
  cases c with
  | writeRegister r v => exact s.writeRegister_pending v r
  | takeReadout n => rw [State.commit, State.resumeSweep_eq]
  | wake =>
    simp only [State.commit, State.wakeUp]
    split <;> rfl
  | softReset => exact s.softReset_pending
  | nothing | post | submit | takeCompletion | takeEvent | arm => rfl

@[simp] theorem State.postFrom_pending (p : Producer) : (s.postFrom p).pending = s.pending := by
  cases p <;> rfl

end

end Sys2Proof.Machine
end

section
/-! SUPPORT. A step takes the front of the queue of waiting commands, and no command touches the rest (log entries 2
and 8). -/

namespace Sys2Proof.Machine

/-- Settles O1: `step` is defined by the two cases of the queue. -/
theorem stepRunsFrontCommand : Obligations.StepRunsFrontCommand := by
  refine ⟨fun c rest s => rfl, fun s empty => ?_⟩
  unfold step
  rw [empty]

section
variable {s t u : State}

/-! ### The frames of the rows -/

/-- If the command ends in a next state, the queue of waiting commands is there as it was. -/
def OutKeepsQueue (s : State) (o : Out) : Prop := ∀ t, o = .next t → t.pending = s.pending

theorem OutKeepsQueue.next (h : t.pending = s.pending) : OutKeepsQueue s (.next t) := by
  rintro _ ⟨⟩
  exact h

theorem takeStep_keepsQueue (s : State) {f : State → Out} (hf : ∀ t, OutKeepsQueue t (f t)) :
    OutKeepsQueue s (takeStep s f) := by
  unfold takeStep
  split
  · exact .next rfl
  · exact fun t ht => (hf _ t ht).trans s.settle_pending

theorem takeOutstanding_keepsQueue (s : State) {f : State → State} (hf : (f s).pending = s.pending) :
    OutKeepsQueue s (takeOutstanding s f) := by
  unfold takeOutstanding
  split
  · exact .next rfl
  · exact .next hf

theorem request_keepsQueue (s : State) (op : Opcode) (body : List Byte) (crc : Byte) (own : State → Decision) :
    OutKeepsQueue s (request op body crc own s) :=
  takeStep_keepsQueue s fun t => by
    split
    · exact .next (t.respond_pending _ _)
    · exact .next rfl

theorem exec_keepsQueue_of_requestOf (s : State) {c : Instr} {op : Opcode} {body : List Byte} {crc : Byte}
    (hc : requestOf c = some (op, body, crc)) : OutKeepsQueue s (exec c s) := by
  obtain ⟨own, hx⟩ := exec_of_requestOf c op body crc hc
  rw [hx]
  exact request_keepsQueue s _ _ _ _

theorem dispatch_keepsQueue (s : State) (kind : CommandKind) {take : QueuedCommand → State → State}
    (ht : ∀ (c : QueuedCommand) (t : State), (take c t).pending = t.pending) :
    OutKeepsQueue s (dispatch kind take s) :=
  takeStep_keepsQueue s fun t => by
    split
    · exact .next rfl
    · exact .next (ht _ t.dequeued)

/-- A grant moves the arbiter's pointer (R145). -/
theorem grantTo_keepsQueue (s : State) (m : Member) {f : State → State → Out}
    (hf : ∀ t u : State, u.pending = t.pending → OutKeepsQueue t (f t u)) : OutKeepsQueue s (grantTo m f s) :=
  takeStep_keepsQueue s fun t => by
    split
    · exact hf t _ rfl
    · exact .next rfl

theorem beginOn_keepsQueue (c : CounterOp) (op : ArrayOp) (h : u.pending = t.pending) :
    OutKeepsQueue t (beginOn c op u) := by
  unfold beginOn
  split
  · exact .next h
  · exact fun _ hn => nomatch hn

/-! ### The Host Port (R15 to R17, R23) -/

theorem execPostUpdates_keepsQueue (records : List UpdateRecord) (crc : Byte) :
    OutKeepsQueue s (execPostUpdates records crc s) := by
  unfold execPostUpdates
  split
  · exact request_keepsQueue s _ _ _ _
  · refine takeStep_keepsQueue s fun t => ?_
    split
    · exact .next (t.enterSink_pending _ _)
    · exact .next rfl

theorem execCleanEnd_keepsQueue : OutKeepsQueue s (execCleanEnd s) :=
  takeStep_keepsQueue s fun t => by
    split
    · exact .next (t.commit_pending _)
    all_goals exact .next rfl

theorem execEarlyEnd_keepsQueue (op : Opcode) : OutKeepsQueue s (execEarlyEnd op s) :=
  takeStep_keepsQueue s fun t => by
    have reported (o : Byte) : OutKeepsQueue t (.next ((t.hostError o 1#8).endTransaction true false)) :=
      .next (t.hostError_pending o 1#8)
    split
    · exact reported _
    · exact reported _
    · split
      · exact .next rfl
      · exact reported _
    all_goals exact .next rfl

theorem execSink_keepsQueue (cause : SinkCause) : OutKeepsQueue s (execSink cause s) :=
  takeStep_keepsQueue s fun t => by
    have entered (b reason : Byte) : OutKeepsQueue t (.next (t.enterSink b reason)) :=
      .next (t.enterSink_pending b reason)
    split
    · split
      · split
        · exact .next rfl
        · exact entered _ _
      · split
        · exact .next rfl
        · exact entered _ _
    · exact .next rfl

/-! ### Operations of the array (R144, R153), completion records (R46) and the entry into RETAIN (R167) -/

/-- An operation's own effect leaves the queue, and so does its end (R111, R144). -/
theorem OutKeepsQueue.finishOp (h : u.pending = t.pending) (departed : Bool) :
    OutKeepsQueue t (.next (u.finishOp departed)) :=
  .next ((u.finishOp_pending departed).trans h)

theorem execPoisonFill_keepsQueue : OutKeepsQueue s (execPoisonFill s) :=
  takeStep_keepsQueue s fun t => by
    split
    · split <;> exact .next rfl
    · exact .next rfl

theorem execPoisonFillCompletion_keepsQueue : OutKeepsQueue s (execPoisonFillCompletion s) :=
  takeStep_keepsQueue s fun t => by
    split
    · refine .finishOp ?_ _
      split <;> rfl
    · exact .next rfl

theorem execCompletionPost_keepsQueue : OutKeepsQueue s (execCompletionPost s) :=
  takeStep_keepsQueue s fun t => by
    split
    · split
      · exact .next (t.postFrom_pending _)
      · exact .next rfl
    · exact .next rfl

theorem execEnterRetain_keepsQueue : OutKeepsQueue s (execEnterRetain s) :=
  takeStep_keepsQueue s fun t => by
    split
    · split <;> exact .next rfl
    all_goals exact .next rfl

theorem execResetRelease_keepsQueue : OutKeepsQueue s (execResetRelease s) := by
  unfold execResetRelease
  split <;> exact .next rfl

/-! ### Every command -/

/-- Every command leaves the queue: the resets keep it by name (R165), and every other command by what its frame and its
operations keep. -/
theorem exec_keepsQueue (c : Instr) : OutKeepsQueue s (exec c s) := by
  cases c with
  | status | regRead | regWrite | submit | takeCompletion | takeReadout | takeEvent | wake | softReset | trimUp
  | trimDown | laneReset | laneEnable | alertClear | eventStatus | statisticsCounterClear | regionStatus | clearCount
  | eccInject => exact exec_keepsQueue_of_requestOf s rfl
  | postUpdates records crc => exact execPostUpdates_keepsQueue records crc
  | cleanEnd => exact execCleanEnd_keepsQueue
  | earlyEnd op => exact execEarlyEnd_keepsQueue op
  | sink cause => exact execSink_keepsQueue cause
  | sselNFall | sinkEnd | ignoredLowPeriod | refresh | returnMessage =>
    simp only [exec]
    refine takeStep_keepsQueue s fun t => ?_
    split <;> exact .next rfl
  | define | init | adopt | retire => exact dispatch_keepsQueue s _ fun c t => t.takeRegionCommand_pending _
  | readBin | writeBin | cancelSweep | fence =>
    simp only [exec]
    refine dispatch_keepsQueue s _ fun _ _ => ?_
    rfl
  | sweep | retain =>
    simp only [exec]
    refine dispatch_keepsQueue s _ fun _ _ => ?_
    dsimp only
    split <;> rfl
  | updateAcceptance => exact takeStep_keepsQueue s fun t => .next (t.offers_pending _ _)
  | commit | sweepStep =>
    simp only [exec]
    refine grantTo_keepsQueue s _ fun t u hu => ?_
    dsimp only
    split
    · exact .next rfl
    · exact beginOn_keepsQueue _ _ hu
  | binRead | binWrite =>
    simp only [exec]
    refine grantTo_keepsQueue s _ fun t u hu => ?_
    dsimp only
    split
    · split
      · exact .next hu
      · exact beginOn_keepsQueue _ _ hu
    · exact .next rfl
  | initStep =>
    simp only [exec]
    refine grantTo_keepsQueue s _ fun t u hu => ?_
    dsimp only
    split
    · exact beginOn_keepsQueue _ _ hu
    · exact .next rfl
  | poisonFill => exact execPoisonFill_keepsQueue
  | commitCompletion | binReadCompletion | binWriteCompletion | sweepStepCompletion | initStepCompletion
  | refreshCompletion =>
    simp only [exec]
    refine takeStep_keepsQueue s fun t => ?_
    split
    · exact .finishOp (by simp) _
    · exact .next rfl
  | poisonFillCompletion => exact execPoisonFillCompletion_keepsQueue
  | completionPost => exact execCompletionPost_keepsQueue
  | enterRetain => exact execEnterRetain_keepsQueue
  | dataFrame samples | trainingFrame samples =>
    exact takeStep_keepsQueue s fun t => .next (t.lclkEdges_pending samples)
  | timebaseTick => exact takeStep_keepsQueue s fun t => .next t.tick_pending
  | powerOnReset | pinReset => exact .next rfl
  | resetRelease => exact execResetRelease_keepsQueue
  | markerRegistration => exact takeOutstanding_keepsQueue s s.markRecord_pending
  | lingerTick => exact takeOutstanding_keepsQueue s s.lingerTick_pending
  | sweepStart => exact takeOutstanding_keepsQueue s s.sweepStart_pending
  | terminalRecord => exact takeOutstanding_keepsQueue s s.terminalRecord_pending
  | refreshDue => exact takeOutstanding_keepsQueue s s.refreshDue_pending
  | seekRetrainRepeat => exact takeOutstanding_keepsQueue s s.seekRepeat_pending
  | trainTimeout => exact takeOutstanding_keepsQueue s s.trainTimeout_pending
  | laneStall => exact takeOutstanding_keepsQueue s s.stallReport_pending
  | endOfInitialisation => exact takeOutstanding_keepsQueue s s.endOfInitialisation_pending
  | reservedRecord => exact takeOutstanding_keepsQueue s s.reservedRecord_pending
  | padRecord => exact takeOutstanding_keepsQueue s s.padRecord_pending

end

/-- Settles O2, command by command. -/
theorem execKeepsTheQueue : Obligations.ExecKeepsTheQueue := fun c _ t hexec => exec_keepsQueue c t hexec

end Sys2Proof.Machine
end
